-- ==== Sys2Proof/Word.lean ====
section
/-! DEFINITION. The byte of the frames (R172) and the 16-bit word of the layout items (R176). Everything else
the manual counts is a number, a name or a set of names. -/

namespace Sys2Proof

/-- One byte of a CAN frame (R163, R172). -/
abbrev Byte := BitVec 8

/-- One 16-bit word: a layout item's value as the frames and the CRC carry it (R176, R178). -/
abbrev Word16 := BitVec 16

end Sys2Proof
end

