-- ==== Sys2Proof/Syntax.lean ====
section
/-! DEFINITION. The commands of the block: one constructor for each row of spec/opcode_table.json. A request row
(POST to BAD_REQUEST) is the TAKING of the request at the head of the receive FIFO (R166): its arguments are the
bytes of that frame (R173), so its constructor has no operand (log 1). -/

namespace Sys2Proof

/-- A frame on the CAN bus as the port sees it (R163): its identifier, its format, whether it is a remote frame,
and its data bytes. -/
structure CanFrame where
  identifier : Nat
  extended   : Bool
  remote     : Bool
  data       : List Byte
  deriving DecidableEq, Repr

/-- The commands, in the table's order. -/
inductive Instr where
  /-- Supply is applied (R182); `memoryGood`: the table memory check passes (R179). -/
  | powerOnReset (memoryGood : Bool)
  /-- A frame has arrived at the port (R163, R165). -/
  | frameReceived (frame : CanFrame)
  /-- A POST is taken (R8). -/
  | post
  /-- A WITHDRAW by key is taken (R16). -/
  | withdrawByKey
  /-- A WITHDRAW by slot is taken (R17). -/
  | withdrawBySlot
  /-- A LOOKUP by key is taken (R18). -/
  | lookupByKey
  /-- A LOOKUP by slot is taken (R18). -/
  | lookupBySlot
  /-- A LIST is taken (R38). -/
  | list
  /-- A REFRESH is taken (R57). -/
  | refresh
  /-- A LOCK is taken (R51). -/
  | lock
  /-- An UNLOCK is taken (R53). -/
  | unlock
  /-- A ZONE_STATUS of page 0 is taken (R102). -/
  | zoneStatusPage0
  /-- A ZONE_STATUS of page 1 is taken (R103). -/
  | zoneStatusPage1
  /-- A PLANT_STATUS is taken (R175). -/
  | plantStatus
  /-- A SUPPLY is taken (R60). -/
  | supply
  /-- A LAYOUT_READ is taken (R180). -/
  | layoutRead
  /-- A LAYOUT_WRITE is taken (R180). -/
  | layoutWrite
  /-- A LAYOUT_STORE is taken (R181). -/
  | layoutStore
  /-- A RESTART is taken (R182). -/
  | restart
  /-- A frame that is no request is taken (R166). -/
  | badRequest
  /-- The head frame of the outgoing queue has been transmitted (R169). -/
  | transmissionComplete
  /-- The CAN controller enters bus-off (R170). -/
  | busOff
  /-- Bus-off recovery completes (R170). -/
  | busOffRecovery
  /-- The lapse timer of `station` expires (R49). -/
  | lapse (station : Fin 16)
  /-- The duration timer expires (R19). -/
  | durationTimerExpiry
  /-- The allocation period expires (R63, R65). -/
  | allocation
  /-- The scan timer expires (R140). -/
  | scanTimerExpiry
  /-- The conversion the scan stands at completes with `raw` (R141). -/
  | conversionComplete (raw : BitVec 12)
  /-- The dwell timer expires (R122). -/
  | dwellTimerExpiry
  /-- The clear-hold timer expires (R123). -/
  | clearHoldExpiry
  /-- The cab clear-hold timer expires (R126). -/
  | cabClearHoldExpiry
  /-- The intake period expires (R128, R129). -/
  | intakeComputation
  /-- Door switch `door` reads `isOpen` from now on (R131). -/
  | doorSwitchChange (door : Fin 6) (isOpen : Bool)
  /-- The boost timer expires (R131). -/
  | boostTimerExpiry
  /-- The guard timer expires (R113, R114). -/
  | guardTimerExpiry
  /-- The minimum-on timer expires (R112). -/
  | minimumOnTimerExpiry
  /-- The high-pressure switch reads `isOpen` from now on (R109). -/
  | highPressureSwitchChange (isOpen : Bool)
  /-- The pressure hold expires (R109). -/
  | pressureHoldExpiry
  /-- The over-current input reads `asserted` from now on; true is an assertion (R160, log 9). -/
  | overCurrentAssertion (asserted : Bool)
  /-- The pause timer expires (R160). -/
  | pauseTimerExpiry
  /-- An actuator in motion drives one step (R155). -/
  | actuatorStep (actuator : Fin 17)
  /-- A moving actuator has reached its target step (R155). -/
  | moveComplete (actuator : Fin 17)
  /-- A stall during a homing (R152). -/
  | homingStall (actuator : Fin 17)
  /-- 5000 closing steps have passed without a stall (R152). -/
  | homingNoStop (actuator : Fin 17)
  /-- The opening count has passed the upper travel limit (R152). -/
  | homingTravelOverrun (actuator : Fin 17)
  /-- A stall while MOVING (R156). -/
  | stall (actuator : Fin 17)
  /-- The ignition input reads `isOn` from now on (R183). -/
  | ignitionInputChange (isOn : Bool)
  /-- The ignition debounce timer expires (R183). -/
  | ignitionDebounceExpiry
  /-- The layout write and its verify end; `verified`: the image read back matches (R181). -/
  | storeWriteEnd (verified : Bool)
  deriving DecidableEq, Repr

end Sys2Proof
end

