-- ==== Sys2Proof/Config.lean ====
section
/-! DEFINITION. The fixed quantities of the ZC-840: capacities, periods and thresholds that the rules give as
numbers and no layout item changes. The manual leaves no result of any command open (INVENTORY.md, "What the
manual leaves open"), so there is no free value here. -/

namespace Sys2Proof.Config

/-- The receive FIFO holds up to 8 request frames (R165). -/
def rxCapacity : Nat := 8
/-- The outgoing queue holds up to 24 frames (R169). -/
def txCapacity : Nat := 24
/-- A notice is placed when the queue with the reserved places holds 16 or fewer (R169). -/
def noticeLimit : Nat := 16
/-- Slots 0 to 37 are external (R5). -/
def externalSlots : Nat := 38
/-- The greatest post sequence (R7). -/
def maxPostSeq : Nat := 4294967295
/-- The quota of station 0 (R42). -/
def monitorQuota : Nat := 2
/-- Motion channels (R153). -/
def motionChannels : Nat := 6
/-- Steps of the closing phase (R152). -/
def closingSteps : Nat := 5000
/-- The deadband of a READY actuator at rest, permille (R155). -/
def deadband : Nat := 5

/-- The duration timer's period, ms (R19). -/
def durationPeriod : Nat := 1000
/-- The allocation period, ms (R63). -/
def allocationPeriod : Nat := 1000
/-- The intake period, ms (R128). -/
def intakePeriod : Nat := 1000
/-- The guard time, ms (R105). -/
def guardTime : Nat := 30000
/-- The minimum-on time, ms (R105). -/
def minimumOnTime : Nat := 10000
/-- The pressure hold, ms (R109). -/
def pressureHoldTime : Nat := 60000
/-- The boost time, ms (R131). -/
def boostTime : Nat := 5000
/-- The over-current pause, ms (R160). -/
def pauseTime : Nat := 10000
/-- The ignition debounce, ms (R183). -/
def debounceTime : Nat := 500

/-- The least raw value in range (R141). -/
def rawLow : Nat := 40
/-- The greatest raw value in range (R141). -/
def rawHigh : Nat := 4055
/-- Out-of-range samples in a row that declare a fault (R141). -/
def faultCount : Nat := 3
/-- In-range samples in a row that end a fault (R141). -/
def recoveryCount : Nat := 10

/-- The least usable spread of the decks, tenths of a degree (R88). -/
def usableSpread : Int := 50
/-- The cold-engine limit applies below this T_hot (R74). -/
def coldEngineBelow : Int := 300
/-- The level of the synthetic demand (R72). -/
def syntheticLevel : Nat := 5
/-- The least blower duty at which it runs (R80). -/
def blowerFloor : Nat := 150
/-- The cap of the filter fan at effective supply level 3 (R134). -/
def fanCap : Nat := 600
/-- The stepped duty at an entry into pressurizing (R132). -/
def entryDuty : Nat := 500
/-- The stepped duty without a healthy channel 14 (R133). -/
def fallbackDuty : Nat := 800
/-- The SUSPECT cap of the intake door target (R129). -/
def suspectCap : Nat := 500

end Sys2Proof.Config
end

