-- ==== Sys2Proof/Machine/Layout.lean ====
section
/-! DEFINITION. The layout: its items, their numbers, ranges and defaults (R176, R177), the built-in layout, the
load (R178) and the CRC. An image of the layout holds any value in any item; only the load and LAYOUT_WRITE judge
ranges. -/

namespace Sys2Proof.Machine

/-- The zone table's row of one zone (R176). -/
structure ZoneRow where
  present      : Nat
  flowPerLevel : Nat
  channel      : Nat
  gain         : Nat
  deriving DecidableEq, Repr

/-- The station table's row of one station (R176). -/
structure StationRow where
  defined       : Nat
  targetRights  : Nat
  kindRights    : Nat
  maxLevel      : Nat
  quota         : Nat
  lapseInterval : Nat
  lockRight     : Nat
  supplyRight   : Nat
  serviceRight  : Nat
  defaultMask   : Nat
  deriving DecidableEq, Repr

/-- The scaling values of one linear channel (R143, R176). -/
structure ScaleRow where
  lo : Int
  hi : Int
  deriving DecidableEq, Repr

/-- An image of the layout (R176). `stations` holds stations 1 to 15 at places 0 to 14, `scaling` channels 11 to 15
at places 0 to 4. -/
structure Layout where
  zones              : Vector ZoneRow 8
  bmax               : Nat
  defaultFresh       : Nat
  cabSetpoint        : Nat
  stations           : Vector StationRow 15
  coSuspect          : Nat
  coAlarm            : Nat
  particulateSuspect : Nat
  particulateAlarm   : Nat
  suspectDwell       : Nat
  clearHold          : Nat
  cabHigh            : Nat
  cabClear           : Nat
  cabClearHold       : Nat
  purgeMinutes       : Nat
  dpTarget           : Nat
  enableSet          : Nat
  scanPeriod         : Nat
  thermistor         : Vector Int 9
  scaling            : Vector ScaleRow 5
  travelLow          : Nat
  travelHigh         : Nat
  deriving DecidableEq, Repr

/-- The items of a zone's row, in number order. -/
inductive ZoneItem where
  | present | flowPerLevel | channel | gain
  deriving DecidableEq, Repr

/-- The items of a station's row, in number order. -/
inductive StationItem where
  | defined | targetRights | kindRights | maxLevel | quota | lapseInterval | lockRight | supplyRight | serviceRight
  | defaultMask
  deriving DecidableEq, Repr

/-- The items that stand alone, in number order. -/
inductive PlainItem where
  | bmax | defaultFresh | cabSetpoint
  | coSuspect | coAlarm | particulateSuspect | particulateAlarm | suspectDwell | clearHold | cabHigh | cabClear
  | cabClearHold | purgeMinutes | dpTarget
  | enableSet | scanPeriod
  | travelLow | travelHigh
  deriving DecidableEq, Repr

/-- An item of the layout (R176). `station i f` is of station i + 1, `scaleLo c` and `scaleHi c` of channel c + 11. -/
inductive Item where
  | zone (z : Fin 8) (f : ZoneItem)
  | station (i : Fin 15) (f : StationItem)
  | plain (f : PlainItem)
  | thermistor (i : Fin 9)
  | scaleLo (c : Fin 5)
  | scaleHi (c : Fin 5)
  deriving DecidableEq, Repr

/-- The place of a zone item in its row. -/
def ZoneItem.offset : ZoneItem → Nat
  | .present => 0 | .flowPerLevel => 1 | .channel => 2 | .gain => 3

/-- The place of a station item in its row. -/
def StationItem.offset : StationItem → Nat
  | .defined => 0 | .targetRights => 1 | .kindRights => 2 | .maxLevel => 3 | .quota => 4 | .lapseInterval => 5
  | .lockRight => 6 | .supplyRight => 7 | .serviceRight => 8 | .defaultMask => 9

/-- The number of an item that stands alone. -/
def PlainItem.number : PlainItem → Nat
  | .bmax => 0x0200 | .defaultFresh => 0x0201 | .cabSetpoint => 0x0202
  | .coSuspect => 0x0400 | .coAlarm => 0x0401 | .particulateSuspect => 0x0402 | .particulateAlarm => 0x0403
  | .suspectDwell => 0x0404 | .clearHold => 0x0405 | .cabHigh => 0x0406 | .cabClear => 0x0407
  | .cabClearHold => 0x0408 | .purgeMinutes => 0x0409 | .dpTarget => 0x040A
  | .enableSet => 0x0500 | .scanPeriod => 0x0501
  | .travelLow => 0x0600 | .travelHigh => 0x0601

/-- The number of an item (R176). -/
def Item.number : Item → Nat
  | .zone z f => 0x0100 + 16 * z.val + f.offset
  | .station i f => 0x0300 + 16 * (i.val + 1) + f.offset
  | .plain f => f.number
  | .thermistor i => 0x0510 + i.val
  | .scaleLo c => 0x0520 + 2 * c.val
  | .scaleHi c => 0x0521 + 2 * c.val

/-- The items of zone z's row (R176). -/
def Item.ofZone (z : Fin 8) : List Item :=
  [.zone z .present, .zone z .flowPerLevel, .zone z .channel, .zone z .gain]

/-- The items of a station's row (R176). -/
def Item.ofStation (i : Fin 15) : List Item :=
  [.station i .defined, .station i .targetRights, .station i .kindRights, .station i .maxLevel, .station i .quota,
   .station i .lapseInterval, .station i .lockRight, .station i .supplyRight, .station i .serviceRight,
   .station i .defaultMask]

/-- The plant values (R176). -/
def Item.plantItems : List Item := [.plain .bmax, .plain .defaultFresh, .plain .cabSetpoint]

/-- The thresholds and the first sensor settings (R176). -/
def Item.thresholdItems : List Item :=
  [.plain .coSuspect, .plain .coAlarm, .plain .particulateSuspect, .plain .particulateAlarm, .plain .suspectDwell,
   .plain .clearHold, .plain .cabHigh, .plain .cabClear, .plain .cabClearHold, .plain .purgeMinutes,
   .plain .dpTarget, .plain .enableSet, .plain .scanPeriod]

/-- The actuator travel limits (R176). -/
def Item.travelItems : List Item := [.plain .travelLow, .plain .travelHigh]

/-- Every item, in ascending number (R176, R178). -/
def Item.all : List Item :=
  ((List.finRange 8).flatMap Item.ofZone).append <| Item.plantItems.append <|
  ((List.finRange 15).flatMap Item.ofStation).append <| Item.thresholdItems.append <|
  ((List.finRange 9).map Item.thermistor).append <|
  ((List.finRange 5).flatMap (fun c => [Item.scaleLo c, Item.scaleHi c])).append Item.travelItems

/-- The item a number names, if it names one (R176). -/
def Item.ofNumber (n : Nat) : Option Item :=
  Item.all.find? (fun i => i.number == n)

/-- The zone item's value in a row. -/
def ZoneRow.get (r : ZoneRow) : ZoneItem → Nat
  | .present => r.present | .flowPerLevel => r.flowPerLevel | .channel => r.channel | .gain => r.gain

/-- The row with one item replaced. -/
def ZoneRow.set (r : ZoneRow) (f : ZoneItem) (v : Nat) : ZoneRow :=
  match f with
  | .present => { r with present := v }
  | .flowPerLevel => { r with flowPerLevel := v }
  | .channel => { r with channel := v }
  | .gain => { r with gain := v }

/-- The station item's value in a row. -/
def StationRow.get (r : StationRow) : StationItem → Nat
  | .defined => r.defined | .targetRights => r.targetRights | .kindRights => r.kindRights
  | .maxLevel => r.maxLevel | .quota => r.quota | .lapseInterval => r.lapseInterval | .lockRight => r.lockRight
  | .supplyRight => r.supplyRight | .serviceRight => r.serviceRight | .defaultMask => r.defaultMask

/-- The row with one item replaced. -/
def StationRow.set (r : StationRow) (f : StationItem) (v : Nat) : StationRow :=
  match f with
  | .defined => { r with defined := v }
  | .targetRights => { r with targetRights := v }
  | .kindRights => { r with kindRights := v }
  | .maxLevel => { r with maxLevel := v }
  | .quota => { r with quota := v }
  | .lapseInterval => { r with lapseInterval := v }
  | .lockRight => { r with lockRight := v }
  | .supplyRight => { r with supplyRight := v }
  | .serviceRight => { r with serviceRight := v }
  | .defaultMask => { r with defaultMask := v }

/-- The value of an item that stands alone. -/
def Layout.getPlain (l : Layout) : PlainItem → Nat
  | .bmax => l.bmax | .defaultFresh => l.defaultFresh | .cabSetpoint => l.cabSetpoint
  | .coSuspect => l.coSuspect | .coAlarm => l.coAlarm
  | .particulateSuspect => l.particulateSuspect | .particulateAlarm => l.particulateAlarm
  | .suspectDwell => l.suspectDwell | .clearHold => l.clearHold | .cabHigh => l.cabHigh | .cabClear => l.cabClear
  | .cabClearHold => l.cabClearHold | .purgeMinutes => l.purgeMinutes | .dpTarget => l.dpTarget
  | .enableSet => l.enableSet | .scanPeriod => l.scanPeriod
  | .travelLow => l.travelLow | .travelHigh => l.travelHigh

/-- The image with one item that stands alone replaced. -/
def Layout.setPlain (l : Layout) (f : PlainItem) (v : Nat) : Layout :=
  match f with
  | .bmax => { l with bmax := v }
  | .defaultFresh => { l with defaultFresh := v }
  | .cabSetpoint => { l with cabSetpoint := v }
  | .coSuspect => { l with coSuspect := v }
  | .coAlarm => { l with coAlarm := v }
  | .particulateSuspect => { l with particulateSuspect := v }
  | .particulateAlarm => { l with particulateAlarm := v }
  | .suspectDwell => { l with suspectDwell := v }
  | .clearHold => { l with clearHold := v }
  | .cabHigh => { l with cabHigh := v }
  | .cabClear => { l with cabClear := v }
  | .cabClearHold => { l with cabClearHold := v }
  | .purgeMinutes => { l with purgeMinutes := v }
  | .dpTarget => { l with dpTarget := v }
  | .enableSet => { l with enableSet := v }
  | .scanPeriod => { l with scanPeriod := v }
  | .travelLow => { l with travelLow := v }
  | .travelHigh => { l with travelHigh := v }

/-- The value of an item in an image (R180). -/
def Layout.get (l : Layout) : Item → Int
  | .zone z f => (l.zones[z.val].get f : Nat)
  | .station i f => (l.stations[i.val].get f : Nat)
  | .plain f => (l.getPlain f : Nat)
  | .thermistor i => l.thermistor[i.val]
  | .scaleLo c => l.scaling[c.val].lo
  | .scaleHi c => l.scaling[c.val].hi

/-- The image with one item replaced (R180). -/
def Layout.set (l : Layout) (i : Item) (v : Int) : Layout :=
  match i with
  | .zone z f => { l with zones := l.zones.set z.val (l.zones[z.val].set f v.toNat) }
  | .station i f => { l with stations := l.stations.set i.val (l.stations[i.val].set f v.toNat) }
  | .plain f => l.setPlain f v.toNat
  | .thermistor i => { l with thermistor := l.thermistor.set i.val v }
  | .scaleLo c => { l with scaling := l.scaling.set c.val { l.scaling[c.val] with lo := v } }
  | .scaleHi c => { l with scaling := l.scaling.set c.val { l.scaling[c.val] with hi := v } }

/-- The thermistor temperatures and the scaling values of channel 14 are carried signed (R176). -/
def Item.signed : Item → Bool
  | .thermistor _ => true
  | .scaleLo c => c == 3
  | .scaleHi c => c == 3
  | _ => false

/-- The range of a scaling value of channel c + 11 (R176). -/
def scaleRange (c : Fin 5) : Int × Int :=
  match c.val with
  | 3 => (-50, 200)
  | 4 => (0, 200)
  | _ => (0, 1000)

/-- The range of an item that stands alone (R176). -/
def PlainItem.range : PlainItem → Int × Int
  | .bmax => (80, 480) | .defaultFresh => (0, 1000) | .cabSetpoint => (160, 300)
  | .coSuspect => (5, 500) | .coAlarm => (5, 500)
  | .particulateSuspect => (10, 1000) | .particulateAlarm => (10, 1000)
  | .suspectDwell => (1, 60) | .clearHold => (10, 600) | .cabHigh => (5, 500) | .cabClear => (5, 500)
  | .cabClearHold => (5, 300) | .purgeMinutes => (1, 30) | .dpTarget => (20, 150)
  | .enableSet => (0, 65535) | .scanPeriod => (50, 500)
  | .travelLow => (400, 4000) | .travelHigh => (400, 4000)

/-- The least and the greatest value of an item (R176); the lapse interval has a gap, see `Item.inRange`. -/
def Item.range : Item → Int × Int
  | .zone z .present => (if z.val = 0 then 1 else 0, 1)
  | .zone _ .flowPerLevel => (1, 12)
  | .zone _ .channel => (0, 7)
  | .zone _ .gain => (5, 50)
  | .station _ .defined => (0, 1)
  | .station _ .targetRights => (0, 511)
  | .station _ .kindRights => (0, 63)
  | .station _ .maxLevel => (1, 10)
  | .station _ .quota => (0, 8)
  | .station _ .lapseInterval => (0, 60)
  | .station _ .lockRight => (0, 1)
  | .station _ .supplyRight => (0, 1)
  | .station _ .serviceRight => (0, 1)
  | .station _ .defaultMask => (0, 15)
  | .plain f => f.range
  | .thermistor _ => (-400, 1200)
  | .scaleLo c => scaleRange c
  | .scaleHi c => scaleRange c

/-- A value lies in the item's range (R176): a lapse interval is 0, or 2 to 60. -/
def Item.inRange (i : Item) (v : Int) : Bool :=
  decide (i.range.1 ≤ v) && decide (v ≤ i.range.2) &&
  match i with
  | .station _ .lapseInterval => decide (v ≠ 1)
  | _ => true

/-- A station that the built-in layout does not define (R177, stations 3 to 14). -/
def StationRow.undefined : StationRow :=
  { defined := 0, targetRights := 0, kindRights := 0, maxLevel := 1, quota := 0, lapseInterval := 0,
    lockRight := 0, supplyRight := 0, serviceRight := 0, defaultMask := 0 }

/-- The built-in row of the driver's and the officer's panel (R177, stations 1 and 2). -/
def StationRow.panel : StationRow :=
  { defined := 1, targetRights := 511, kindRights := 63, maxLevel := 10, quota := 6, lapseInterval := 10,
    lockRight := 1, supplyRight := 0, serviceRight := 0, defaultMask := 15 }

/-- The built-in row of the service tool (R177, station 15). -/
def StationRow.service : StationRow :=
  { StationRow.undefined with defined := 1, serviceRight := 1 }

/-- The built-in row of zone z (R176). -/
def ZoneRow.builtIn (z : Nat) : ZoneRow :=
  { present := if z ≤ 2 then 1 else 0, flowPerLevel := 8, channel := z, gain := 30 }

/-- The built-in layout (R176, R177; the thermistor table of R142, the scaling of R143). -/
def Layout.builtIn : Layout where
  zones := #v[ZoneRow.builtIn 0, ZoneRow.builtIn 1, ZoneRow.builtIn 2, ZoneRow.builtIn 3,
              ZoneRow.builtIn 4, ZoneRow.builtIn 5, ZoneRow.builtIn 6, ZoneRow.builtIn 7]
  bmax := 240
  defaultFresh := 300
  cabSetpoint := 210
  stations := #v[.panel, .panel, .undefined, .undefined, .undefined, .undefined, .undefined, .undefined,
                 .undefined, .undefined, .undefined, .undefined, .undefined, .undefined, .service]
  coSuspect := 25
  coAlarm := 50
  particulateSuspect := 150
  particulateAlarm := 400
  suspectDwell := 10
  clearHold := 120
  cabHigh := 35
  cabClear := 20
  cabClearHold := 30
  purgeMinutes := 5
  dpTarget := 50
  enableSet := 0xFF07
  scanPeriod := 100
  thermistor := #v[1200, 800, 560, 390, 250, 120, -10, -170, -400]
  scaling := #v[⟨0, 500⟩, ⟨0, 1000⟩, ⟨0, 500⟩, ⟨-50, 200⟩, ⟨0, 200⟩]
  travelLow := 400
  travelHigh := 4000

/-- An item's default is its value in the built-in layout (R176). -/
def Item.default (i : Item) : Int := Layout.builtIn.get i

/-- The image with an item outside its range replaced by its default (R178). -/
def Layout.repairItem (l : Layout) (i : Item) : Layout :=
  if i.inRange (l.get i) then l else l.set i i.default

/-- The scaling pair of channel c + 11 in order, or both of it replaced by their defaults (R178). -/
def Layout.repairScale (l : Layout) (c : Fin 5) : Layout :=
  if l.get (.scaleLo c) < l.get (.scaleHi c) then l
  else (l.set (.scaleLo c) (Item.default (.scaleLo c))).set (.scaleHi c) (Item.default (.scaleHi c))

/-- The travel limits in order, or both replaced by their defaults (R178). -/
def Layout.repairTravel (l : Layout) : Layout :=
  if l.travelLow < l.travelHigh then l
  else { l with travelLow := Layout.builtIn.travelLow, travelHigh := Layout.builtIn.travelHigh }

/-- The live layout a CRC-matched image gives: the items first, then the bounded pairs (R178, log 14). -/
def Layout.repair (l : Layout) : Layout :=
  ((List.finRange 5).foldl Layout.repairScale (Item.all.foldl Layout.repairItem l)).repairTravel

/-- One bit of the CRC with generator 0x1021 (R178). -/
def crcBit (c : Word16) : Word16 :=
  if c.msb then (c <<< 1) ^^^ 0x1021#16 else c <<< 1

/-- One byte into the CRC, its high bit first (R178, log 12). -/
def crcByte (c : Word16) (b : Byte) : Word16 :=
  crcBit (crcBit (crcBit (crcBit (crcBit (crcBit (crcBit (crcBit (c ^^^ (b.setWidth 16 <<< 8)))))))))

/-- One item value into the CRC, its high byte first (R178, log 12). -/
def crcWord (c : Word16) (w : Word16) : Word16 :=
  crcByte (crcByte c (w.extractLsb' 8 8)) (w.extractLsb' 0 8)

/-- The CRC-16 of an image: initial value 0xFFFF, over the item values in ascending item number (R178). -/
def Layout.crc (l : Layout) : Word16 :=
  Item.all.foldl (fun c i => crcWord c (BitVec.ofInt 16 (l.get i))) 0xFFFF#16

/-- Zone z is present in the layout (R3, R176). -/
def Layout.zonePresent (l : Layout) (z : Fin 8) : Bool := l.zones[z.val].present != 0

/-- Target t is present: a present zone, or the intake (R3). -/
def Layout.targetPresent (l : Layout) (t : Fin 9) : Bool :=
  if h : t.val < 8 then l.zonePresent ⟨t.val, h⟩ else true

/-- The configuration part of a station's entry (R41); station 0 has none (R42). -/
def Layout.config (l : Layout) (s : Fin 16) : StationRow :=
  if h : s.val = 0 then StationRow.undefined
  else l.stations[s.val - 1]'(by have := s.isLt; omega)

/-- Station s is defined in the layout (R41, R42). -/
def Layout.defined (l : Layout) (s : Fin 16) : Bool := (l.config s).defined != 0

/-- A station's quota: 2 for station 0, 0 for an undefined station (R42, R43, R45). -/
def Layout.quotaOf (l : Layout) (s : Fin 16) : Nat :=
  if s.val = 0 then Config.monitorQuota else if l.defined s then (l.config s).quota else 0

/-- Channel c is in the enable set (R138). -/
def Layout.enabled (l : Layout) (c : Fin 16) : Bool := l.enableSet.testBit c.val

/-- Actuator a is present: A0 always, the others with their zone (R149). -/
def Layout.actuatorPresent (l : Layout) (a : Fin 17) : Bool :=
  if h0 : a.val = 0 then true
  else if h1 : a.val ≤ 8 then l.zonePresent ⟨a.val - 1, by omega⟩
  else l.zonePresent ⟨a.val - 9, by have := a.isLt; omega⟩

end Sys2Proof.Machine
end

