-- ==== Sys2Proof/Machine/Types.lean ====
section
/-! DEFINITION. The data of each block of the ZC-840, block by block as 00_scope 3 lists them. Field defaults are
the values after reset that the rules state; those that depend on the layout or on an input stand in
Machine/ResetValues.lean. -/

namespace Sys2Proof.Machine

/-- A target: zones 0 to 7, or the intake, 8 (R3). -/
abbrev Target := Fin 9
/-- A slot of the demand table (R5). -/
abbrev Slot := Fin 40
/-- A station number; 0 is the device's own monitor (R41, R42). -/
abbrev Station := Fin 16
/-- A zone (R3). -/
abbrev Zone := Fin 8
/-- An actuator, A0 to A16 (R149). -/
abbrev ActuatorId := Fin 17
/-- A sensor channel (R138). -/
abbrev ChannelId := Fin 16

/-- A timer: none when stopped, otherwise its remaining time in milliseconds. -/
abbrev Timer := Option Nat

/-! ## Demand table (chapters 1 and 2) -/

/-- The sort of demand a record places (R4). -/
inductive Kind where
  | defrost | rehab | comfort | seal | purge | fresh
  deriving DecidableEq, Repr

/-- The state of a record (R29). -/
inductive RecState where
  | pending | queued | active | limited | blocked
  deriving DecidableEq, Repr

/-- The flags of a record (R1). -/
structure RecFlags where
  clamped    : Bool := false
  noTemp     : Bool := false
  noCool     : Bool := false
  coldEngine : Bool := false
  deriving DecidableEq, Repr

/-- A live record (R1). Its slot is its place in the table, its class the class of its kind. -/
structure Record where
  target       : Target
  station      : Station
  kind         : Kind
  postSeq      : Nat
  level        : Option Nat
  value        : Option Nat
  state        : RecState := .pending
  grantedFlow  : Option Nat
  grantedLevel : Option Nat
  flags        : RecFlags := {}
  deriving DecidableEq, Repr

/-- Why a record is retired (R21). -/
inductive Reason where
  | withdrawn | expired | lapsed | parked | cleared
  deriving DecidableEq, Repr

/-- The demand table: forty slots, nine precedence lists, the post sequence counter, the duration timer (R5, R25,
R7, R19); after reset empty (R24). -/
structure DemandTable where
  slots         : Vector (Option Record) 40 := Vector.replicate 40 none
  lists         : Vector (List Slot) 9 := Vector.replicate 9 []
  postSeq       : Nat := 0
  durationTimer : Timer := some Config.durationPeriod
  deriving DecidableEq, Repr

/-! ## Station register (chapter 3) -/

/-- Presence of a station (R41). -/
inductive Presence where
  | unseen | present | silent
  deriving DecidableEq, Repr

/-- A lapse timer (R48): stopped, running, or held while the link is OFFLINE (R50), with the remaining time, ms. -/
inductive LapseTimer where
  | stopped | running (ms : Nat) | held (ms : Nat)
  deriving DecidableEq, Repr

/-- A notice mask: STATE in bit 0, RETIRE in bit 1, LIMIT in bit 2, AIR in bit 3 (R57, R173). -/
abbrev NoticeMask := BitVec 4

/-- The live part of a station's entry (R41). -/
structure StationEntry where
  presence : Presence := .unseen
  quota    : Nat
  lapse    : LapseTimer := .stopped
  mask     : NoticeMask
  overrun  : Bool := false
  deriving DecidableEq, Repr

/-- The station register: the entries, the nine target locks (R51), the held supply level (R60). -/
structure StationRegister where
  entries : Vector StationEntry 16
  locks   : Vector (Option Station) 9 := Vector.replicate 9 none
  supply  : Nat := 0
  deriving DecidableEq, Repr

/-- A notice's category (R55). -/
inductive Category where
  | state | retire | limit | air
  deriving DecidableEq, Repr

/-! ## Zone climate computer (chapters 4 and 5) -/

/-- What a zone is served for (R64). -/
inductive ServedFor where
  | none | synthetic | slot (n : Slot)
  deriving DecidableEq, Repr

/-- A temperature of a zone's state (R94). -/
inductive ZoneTemp where
  | notSet | unknown | known (t : Int)
  deriving DecidableEq, Repr

/-- The zone climate computer's state of one zone (R64, R94). -/
structure ZoneState where
  servedFor    : ServedFor := .none
  grantedFlow  : Nat := 0
  outletTarget : Nat := 0
  tZone        : ZoneTemp := .notSet
  tDischarge   : ZoneTemp := .notSet
  blend        : Option Nat := Option.none
  deriving DecidableEq, Repr

/-- The zone climate computer (R64). -/
structure ClimateComputer where
  zones           : Vector ZoneState 8 := Vector.replicate 8 {}
  voltageLevel    : Nat := 0
  effectiveSupply : Nat := 0
  availableFlow   : Nat := 0
  blowerFlow      : Nat := 0
  blowerDuty      : Nat := 0
  coolingRequest  : Bool := false
  heatRequest     : Bool := false
  allocationTimer : Timer := some Config.allocationPeriod
  deriving DecidableEq, Repr

/-! ## Refrigerant and coolant control (chapter 6) -/

/-- The clutch control's state (R105). -/
inductive ClutchState where
  | off | on | guard | locked
  deriving DecidableEq, Repr

/-- The five lockouts (R106). -/
structure Lockouts where
  ambient  : Bool := false
  freeze   : Bool := false
  pressure : Bool
  supply   : Bool := false
  sensor   : Bool := true
  deriving DecidableEq, Repr

/-- The refrigerant and coolant control (R105, R109, R116). -/
structure CoolantControl where
  clutch       : ClutchState := .guard
  guardTimer   : Timer := some Config.guardTime
  minOnTimer   : Timer := none
  lockouts     : Lockouts
  pressureHold : Timer := none
  cooling      : Bool := false
  valveOpen    : Bool := false
  deriving DecidableEq, Repr

/-! ## Air quality monitor and intake controller (chapter 7) -/

/-- The contamination state (R118). -/
inductive Contamination where
  | clear | suspect | contaminated
  deriving DecidableEq, Repr

/-- The air quality monitor (R118). -/
structure AirMonitor where
  contamination   : Contamination := .suspect
  evaluating      : Bool := false
  judgedCo        : Option Int
  judgedParticle  : Option Int
  dwellTimer      : Timer := none
  clearHoldTimer  : Timer := none
  cabHigh         : Bool := false
  cabClearTimer   : Timer := none
  deriving DecidableEq, Repr

/-- The intake controller (R128). Its door inputs are the pins' door switches, which it follows (R131). -/
structure IntakeController where
  doorTarget   : Nat := 0
  pressurizing : Bool := false
  steppedDuty  : Option Nat := none
  outputDuty   : Nat := 0
  boostTimer   : Timer := none
  intakeTimer  : Timer := some Config.intakePeriod
  deriving DecidableEq, Repr

/-! ## Sensor scanner (chapter 8) -/

/-- The condition of a channel (R139). -/
inductive Condition where
  | absent | awaiting | valid | faulted
  deriving DecidableEq, Repr

/-- One channel of the scanner (R139). -/
structure Channel where
  condition  : Condition
  filtered   : Option Int := none
  outOfRange : Nat := 0
  recovery   : Nat := 0
  deriving DecidableEq, Repr

/-- The sensor scanner: the channels, the scan timer, and the channels of the scan in progress that are not yet
converted (R139, R140). -/
structure Scanner where
  channels  : Vector Channel 16
  scanTimer : Timer
  scan      : List ChannelId := []
  deriving DecidableEq, Repr

/-! ## Actuator drive (chapter 9) -/

/-- The state of an actuator (R151). -/
inductive ActState where
  | unhomed | homing | rehoming | ready | moving | faulted
  deriving DecidableEq, Repr

/-- The homing phase (R149). -/
inductive HomingPhase where
  | none | closing | opening
  deriving DecidableEq, Repr

/-- The fault reason (R149). -/
inductive FaultReason where
  | none | noStop | travel | stall
  deriving DecidableEq, Repr

/-- An actuator (R149). `count` is the number of steps driven in the present homing phase (R152, log 16). -/
structure Actuator where
  state      : ActState := .unhomed
  phase      : HomingPhase := .none
  travel     : Option Nat := Option.none
  step       : Option Nat := Option.none
  reported   : Nat := 0
  target     : Nat
  rehomeMark : Bool := false
  reason     : FaultReason := .none
  count      : Nat := 0
  deriving DecidableEq, Repr

/-- The actuator drive: the actuators, and the motion queue, oldest first (R149, R153). -/
structure ActuatorDrive where
  actuators : Vector Actuator 17
  queue     : List ActuatorId := []
  deriving DecidableEq, Repr

/-- The blower drive and the filter fan drive (R159, R161). A pause is in force while its timer runs. -/
structure FanDrives where
  blowerDuty : Nat := 0
  pauseTimer : Timer
  fanDuty    : Nat := 0
  deriving DecidableEq, Repr

/-! ## Cab network link (chapter 10) -/

/-- The link state (R164). -/
inductive LinkState where
  | online | offline
  deriving DecidableEq, Repr

/-- A request frame in the receive FIFO (R165). Its length is the number of its bytes. -/
structure RxFrame where
  station : Station
  data    : List Byte
  deriving DecidableEq, Repr

/-- A frame of the outgoing queue (R169): its station and its 8 bytes. -/
structure TxFrame where
  station : Station
  data    : Vector Byte 8
  deriving DecidableEq, Repr

/-- The cab network link (R164, R165, R169). `busOff`: the CAN controller is in bus-off (R170). `reserved`: places
reserved for the answer being composed (R166). `restartAwaited`: RESTART has been taken (R182). -/
structure Link where
  state          : LinkState := .offline
  busOff         : Bool := false
  rx             : List RxFrame := []
  overrun        : Bool := false
  tx             : List TxFrame := []
  reserved       : Nat := 0
  restartAwaited : Bool := false
  deriving DecidableEq, Repr

/-! ## Layout store and mode controller (chapter 11) -/

/-- The non-volatile store: blank, or an image with the CRC-16 written with it (R178). -/
inductive NvStore where
  | blank | written (image : Layout) (crc : Word16)
  deriving DecidableEq, Repr

/-- The store result (R181). -/
inductive StoreResult where
  | none | writing | failed
  deriving DecidableEq, Repr

/-- The self-check code (R178, R179). -/
inductive SelfCheck where
  | pass | layoutDefault | tableMemory | itemsDefaulted
  deriving DecidableEq, Repr

/-- The layout store (chapter 11). -/
structure LayoutStore where
  nv        : NvStore
  live      : Layout
  image     : Layout
  result    : StoreResult := .none
  selfCheck : SelfCheck
  deriving DecidableEq, Repr

/-- The mode (R183). -/
inductive Mode where
  | start | homing | run | parked
  deriving DecidableEq, Repr

/-- The mode controller (R183). -/
structure ModeController where
  mode     : Mode := .start
  ignition : Bool
  debounce : Timer := none
  deriving DecidableEq, Repr

/-! ## Input pins -/

/-- The levels the outside drives on the device's inputs; no reset changes them. -/
structure Pins where
  ignition     : Bool
  pressureOpen : Bool
  doorsOpen    : Vector Bool 6
  overCurrent  : Bool
  deriving DecidableEq, Repr

end Sys2Proof.Machine
end

