-- ==== Sys2Proof/Machine/ResetValues.lean ====
section
/-! DEFINITION. The values after reset that depend on the live layout or on an input (R44, R106, R109, R118, R139,
R149, R159, R183); the others are the field defaults of Machine/Types.lean. -/

namespace Sys2Proof.Machine

/-- A station's entry after reset (R44). -/
def StationEntry.afterReset (live : Layout) (s : Station) : StationEntry :=
  { quota := live.quotaOf s, mask := BitVec.ofNat 4 (live.config s).defaultMask }

/-- The station register after reset (R44). -/
def StationRegister.afterReset (live : Layout) : StationRegister :=
  { entries := Vector.ofFn (StationEntry.afterReset live) }

/-- The refrigerant and coolant control after reset (R105, R106): PRESSURE is judged from the switch (R109). -/
def CoolantControl.afterReset (pins : Pins) : CoolantControl :=
  { lockouts := { pressure := pins.pressureOpen } }

/-- The air quality monitor after reset (R118): a disabled gas channel is judged at its suspect threshold. -/
def AirMonitor.afterReset (live : Layout) : AirMonitor :=
  { judgedCo := if live.enabled 11 then none else some live.coSuspect
    judgedParticle := if live.enabled 12 then none else some live.particulateSuspect }

/-- A channel after reset (R139). -/
def Channel.afterReset (live : Layout) (c : ChannelId) : Channel :=
  { condition := if live.enabled c then .awaiting else .absent }

/-- The sensor scanner after reset (R139, R140). -/
def Scanner.afterReset (live : Layout) : Scanner :=
  { channels := Vector.ofFn (Channel.afterReset live), scanTimer := some live.scanPeriod }

/-- The park position of an actuator (R149). -/
def parkPosition (a : ActuatorId) : Nat := if a.val ≤ 8 then 0 else 500

/-- An actuator after reset (R149). -/
def Actuator.afterReset (a : ActuatorId) : Actuator := { target := parkPosition a }

/-- The actuator drive after reset (R149, R158). -/
def ActuatorDrive.afterReset : ActuatorDrive := { actuators := Vector.ofFn Actuator.afterReset }

/-- The fan drives after reset (R159, R161): a pause begins if the over-current input reads asserted. -/
def FanDrives.afterReset (pins : Pins) : FanDrives :=
  { pauseTimer := if pins.overCurrent then some Config.pauseTime else none }

/-- The mode controller after reset (R183). -/
def ModeController.afterReset (pins : Pins) : ModeController := { ignition := pins.ignition }

end Sys2Proof.Machine
end

