-- ==== Sys2Proof/Machine/State.lean ====
section
/-! DEFINITION. The state of the ZC-840: one field per block (00_scope 3), the input pins, and the queue of
commands that wait. Plain data throughout. -/

namespace Sys2Proof.Machine

/-- The machine. -/
structure State where
  table    : DemandTable
  register : StationRegister
  climate  : ClimateComputer
  coolant  : CoolantControl
  air      : AirMonitor
  intake   : IntakeController
  scanner  : Scanner
  drive    : ActuatorDrive
  fans     : FanDrives
  link     : Link
  store    : LayoutStore
  modes    : ModeController
  pins     : Pins
  pending  : List Instr
  deriving DecidableEq, Repr

/-- Why the machine stops. -/
inductive Fault where
  /-- Raised by FRAME_RECEIVED alone, for a frame of more than 8 data bytes: no CAN frame has more (R163), so the
  outside cannot send it. Safe: nothing is claimed of it (log 22). -/
  | oversizeFrame
  deriving DecidableEq, Repr

/-- Why a command has no meaning. -/
inductive Refusal where
  /-- Raised by an arm of `exec` whose row has no meaning yet; no arm does. Safe. -/
  | notModelled (mnemonic : String)
  deriving DecidableEq, Repr

/-- The input levels of `State.reset`: ignition off, high-pressure switch closed, doors closed, over-current clear.
The outside drives them; DESIGN CHOICE (log 8). -/
def Pins.atReset : Pins :=
  { ignition := false, pressureOpen := false, doorsOpen := Vector.replicate 6 false, overCurrent := false }

/-- The machine right after a reset that has loaded the built-in layout from a blank store (R178, log 7), before
START goes on: mode START (R183), link OFFLINE (R164), every item at the value its rule states. -/
def State.reset : State where
  table := {}
  register := .afterReset .builtIn
  climate := {}
  coolant := .afterReset .atReset
  air := .afterReset .builtIn
  intake := {}
  scanner := .afterReset .builtIn
  drive := .afterReset
  fans := .afterReset .atReset
  link := {}
  store := { nv := .blank, live := .builtIn, image := .builtIn, selfCheck := .layoutDefault }
  modes := .afterReset .atReset
  pins := .atReset
  pending := []

end Sys2Proof.Machine
end

