-- ==== Sys2Proof/Machine/Clock.lean ====
section
/-! DEFINITION. The block's own clock (log 4): on an empty queue one step lets 1 ms pass. Every running timer's remaining
time falls by 1, and each that runs out puts its expiry command on the queue, in the table's order. -/

namespace Sys2Proof.Machine

/-- A timer after 1 ms. -/
def tickTimer (t : Timer) : Timer := t.map (fun ms => ms - 1)

/-- A timer runs out in this millisecond. -/
def runsOut (t : Timer) : Bool :=
  match t with
  | none => false
  | some ms => decide (ms ≤ 1)

/-- A lapse timer after 1 ms: a held or stopped one does not count (R48, R50). -/
def LapseTimer.tick : LapseTimer → LapseTimer
  | .running ms => .running (ms - 1)
  | .held ms => .held ms
  | .stopped => .stopped

/-- A station's entry after 1 ms. -/
def StationEntry.tick (e : StationEntry) : StationEntry := { e with lapse := e.lapse.tick }

/-- A lapse timer runs out in this millisecond. -/
def LapseTimer.runsOut : LapseTimer → Bool
  | .running ms => decide (ms ≤ 1)
  | .held _ => false
  | .stopped => false

/-- The expiry command of a timer that runs out. -/
def due (t : Timer) (c : Instr) : List Instr := if runsOut t then [c] else []

/-- The expiries of this millisecond, in the table's order. -/
def State.expiries (s : State) : List Instr :=
  ((List.finRange 16).filter (fun st => s.register.entries[st.val].lapse.runsOut)).map Instr.lapse ++
  due s.table.durationTimer .durationTimerExpiry ++
  due s.climate.allocationTimer .allocation ++
  due s.scanner.scanTimer .scanTimerExpiry ++
  due s.air.dwellTimer .dwellTimerExpiry ++
  due s.air.clearHoldTimer .clearHoldExpiry ++
  due s.air.cabClearTimer .cabClearHoldExpiry ++
  due s.intake.intakeTimer .intakeComputation ++
  due s.intake.boostTimer .boostTimerExpiry ++
  due s.coolant.guardTimer .guardTimerExpiry ++
  due s.coolant.minOnTimer .minimumOnTimerExpiry ++
  due s.coolant.pressureHold .pressureHoldExpiry ++
  due s.fans.pauseTimer .pauseTimerExpiry ++
  due s.modes.debounce .ignitionDebounceExpiry

/-- One millisecond passes. -/
def State.tick (s : State) : State :=
  { s with
    register := { s.register with
      entries := Vector.ofFn (fun i : Fin 16 => s.register.entries[i.val].tick) }
    table := { s.table with durationTimer := tickTimer s.table.durationTimer }
    climate := { s.climate with allocationTimer := tickTimer s.climate.allocationTimer }
    scanner := { s.scanner with scanTimer := tickTimer s.scanner.scanTimer }
    air := { s.air with
      dwellTimer := tickTimer s.air.dwellTimer
      clearHoldTimer := tickTimer s.air.clearHoldTimer
      cabClearTimer := tickTimer s.air.cabClearTimer }
    intake := { s.intake with
      intakeTimer := tickTimer s.intake.intakeTimer
      boostTimer := tickTimer s.intake.boostTimer }
    coolant := { s.coolant with
      guardTimer := tickTimer s.coolant.guardTimer
      minOnTimer := tickTimer s.coolant.minOnTimer
      pressureHold := tickTimer s.coolant.pressureHold }
    fans := { s.fans with pauseTimer := tickTimer s.fans.pauseTimer }
    modes := { s.modes with debounce := tickTimer s.modes.debounce }
    pending := s.pending ++ s.expiries }

end Sys2Proof.Machine
end

