-- ==== Sys2Proof/Machine/Arith.lean ====
section
/-! DEFINITION. The rounding words of the conventions (00_scope 6.2) and the packing of frame bytes (R172). -/

namespace Sys2Proof.Machine

/-- ceil of a quotient of numbers that are not negative (6.2). -/
def ceilDiv (a b : Nat) : Nat := (a + (b - 1)) / b

/-- Round half up of a quotient of numbers that are not negative (6.2). -/
def roundDiv (a b : Nat) : Nat := (2 * a + b) / (2 * b)

/-- Round half up of a quotient with a positive divisor (6.2). -/
def roundDivInt (a b : Int) : Int := (2 * a + b) / (2 * b)

/-- Clamp to a range (6.2). -/
def clampInt (lo hi x : Int) : Int := max lo (min hi x)

/-- Clamp to a range of numbers that are not negative (6.2). -/
def clampNat (lo hi x : Nat) : Nat := max lo (min hi x)

/-- A byte holding `hi` in bits 7 to 4 and `lo` in bits 3 to 0 (R174, R175). -/
def nibbles (hi lo : Nat) : Byte := BitVec.ofNat 8 (hi % 16 * 16 + lo % 16)

/-- The high byte of a 16-bit value (R172). -/
def hiByte (w : Word16) : Byte := w.extractLsb' 8 8

/-- The low byte of a 16-bit value (R172). -/
def loByte (w : Word16) : Byte := w.extractLsb' 0 8

/-- An unsigned value as a 16-bit word (R172). -/
def word (n : Nat) : Word16 := BitVec.ofNat 16 n

/-- A signed value as a 16-bit word in two's complement (R172). -/
def wordInt (x : Int) : Word16 := BitVec.ofInt 16 x

/-- The 16-bit word of two bytes, high byte first (R172). -/
def wordOf (hi lo : Byte) : Word16 := hi ++ lo

/-- The code of a condition sent as one bit. -/
def bit (b : Bool) : Nat := if b then 1 else 0

end Sys2Proof.Machine
end

