-- ==== Sys2Proof/Machine/Operands.lean ====
section
/-! DEFINITION. The codes of the frames (R4, R168, R172 to R175) and the operands of a request: what each request
frame names, read from its bytes by the table of R173. -/

namespace Sys2Proof.Machine

/-! ## Codes -/

/-- The code of a kind (R4). -/
def Kind.code : Kind → Nat
  | .defrost => 1 | .rehab => 2 | .comfort => 3 | .seal => 4 | .purge => 5 | .fresh => 6

/-- The kind a code names; 0 and 7 to 15 name none (R4). -/
def Kind.ofCode : Nat → Option Kind
  | 1 => some .defrost | 2 => some .rehab | 3 => some .comfort
  | 4 => some .seal | 5 => some .purge | 6 => some .fresh
  | _ => none

/-- The class of a kind (R4). -/
def Kind.cls : Kind → Nat
  | .defrost => 1 | .rehab => 2 | .comfort => 3 | .seal => 1 | .purge => 2 | .fresh => 3

/-- The timed kinds (1.8). -/
def Kind.timed : Kind → Bool
  | .rehab => true | .purge => true | _ => false

/-- The intake, target 8 (R3). -/
def intakeTarget : Target := 8

/-- The target of a zone (R3). -/
def zoneTarget (z : Zone) : Target := ⟨z.val, by have := z.isLt; omega⟩

/-- A kind is allowed on a target (R4). -/
def Kind.allowedOn (k : Kind) (t : Target) : Bool :=
  match k with
  | .defrost => t.val == 0
  | .rehab | .comfort => decide (1 ≤ t.val) && decide (t.val ≤ 7)
  | .seal | .purge | .fresh => t.val == 8

/-- The code of a record state (R174). -/
def RecState.code : RecState → Nat
  | .pending => 1 | .queued => 2 | .active => 3 | .limited => 4 | .blocked => 5

/-- The states of a record that was judged first: ACTIVE, LIMITED, BLOCKED (R31). -/
def RecState.judgedFirst : RecState → Bool
  | .active | .limited | .blocked => true
  | _ => false

/-- The states in which a timed record counts down (R19). -/
def RecState.counting : RecState → Bool
  | .active | .limited => true
  | _ => false

/-- The flags as four bits: CLAMPED, NO_TEMP, NO_COOL, COLD_ENGINE from the highest (R174). -/
def RecFlags.code (f : RecFlags) : Nat :=
  8 * bit f.clamped + 4 * bit f.noTemp + 2 * bit f.noCool + bit f.coldEngine

/-- The code of a retire reason (R21). -/
def Reason.code : Reason → Nat
  | .withdrawn => 1 | .expired => 2 | .lapsed => 3 | .parked => 4 | .cleared => 5

/-- The code of a notice category (R55). -/
def Category.code : Category → Nat
  | .state => 1 | .retire => 2 | .limit => 3 | .air => 4

/-- The bit of a notice category in a mask (R173). -/
def Category.bit : Category → Nat
  | .state => 0 | .retire => 1 | .limit => 2 | .air => 3

/-- The code of a contamination state (R174). -/
def Contamination.code : Contamination → Nat
  | .clear => 0 | .suspect => 1 | .contaminated => 2

/-- The code of an actuator state (R175). -/
def ActState.code : ActState → Nat
  | .unhomed => 0 | .homing => 1 | .ready => 2 | .moving => 3 | .rehoming => 4 | .faulted => 5

/-- The code of a fault reason (R175). -/
def FaultReason.code : FaultReason → Nat
  | .none => 0 | .noStop => 1 | .travel => 2 | .stall => 3

/-- The code of a mode (R175). -/
def Mode.code : Mode → Nat
  | .start => 0 | .homing => 1 | .run => 2 | .parked => 3

/-- The self-check code (R178, R179). -/
def SelfCheck.code : SelfCheck → Nat
  | .pass => 0 | .layoutDefault => 1 | .tableMemory => 2 | .itemsDefaulted => 3

/-- The code of a store result (R175). -/
def StoreResult.code : StoreResult → Nat
  | .none => 0 | .writing => 1 | .failed => 2

/-- The code of a clutch state (R175). -/
def ClutchState.code : ClutchState → Nat
  | .off => 0 | .on => 1 | .guard => 2 | .locked => 3

/-- The statuses of an answer (R168). -/
inductive Status where
  | ok | clamped | notPermitted | badTarget | badKind | noQuota | tableFull | locked | notFound | notOwner | notNow
  | badRequest | badValue
  deriving DecidableEq, Repr

/-- The code of a status (R168). -/
def Status.code : Status → Nat
  | .ok => 0 | .clamped => 1 | .notPermitted => 2 | .badTarget => 3 | .badKind => 4 | .noQuota => 5
  | .tableFull => 6 | .locked => 7 | .notFound => 8 | .notOwner => 9 | .notNow => 10 | .badRequest => 11
  | .badValue => 12

/-! ## The operands of a request (R173) -/

/-- Byte i of a request frame, 0 where the frame has none. -/
def RxFrame.byte (f : RxFrame) (i : Nat) : Byte := f.data.getD i 0

/-- Byte i as a number. -/
def RxFrame.num (f : RxFrame) (i : Nat) : Nat := (f.byte i).toNat

/-- The high four bits of byte i. -/
def RxFrame.high (f : RxFrame) (i : Nat) : Nat := f.num i / 16

/-- The low four bits of byte i. -/
def RxFrame.low (f : RxFrame) (i : Nat) : Nat := f.num i % 16

/-- Bytes i and i + 1 as an unsigned number, high byte first. -/
def RxFrame.num16 (f : RxFrame) (i : Nat) : Nat := (wordOf (f.byte i) (f.byte (i + 1))).toNat

/-- Bytes i and i + 1 as a number in two's complement, high byte first. -/
def RxFrame.int16 (f : RxFrame) (i : Nat) : Int := (wordOf (f.byte i) (f.byte (i + 1))).toInt

/-- A frame of length 8 whose byte 0 is the request code c (R166, R173). -/
def RxFrame.isRequest (f : RxFrame) (c : Nat) : Bool := f.data.length == 8 && f.num 0 == c

/-- A frame of another length, or whose byte 0 names no request (R166, R173). -/
def RxFrame.isBad (f : RxFrame) : Bool := f.data.length != 8 || f.num 0 == 0 || decide (14 < f.num 0)

/-- The target a number names, if it is 0 to 8 (R3). -/
def targetOf (n : Nat) : Option Target := if h : n < 9 then some ⟨n, h⟩ else none

/-- The zone a number names, if it is 0 to 7 (R101). -/
def zoneOf (n : Nat) : Option Zone := if h : n < 8 then some ⟨n, h⟩ else none

/-- The slot a number names, if it is 0 to 39 (R17). -/
def slotOf (n : Nat) : Option Slot := if h : n < 40 then some ⟨n, h⟩ else none

/-- The present target a number names: 9 and above, and absent zones, name none (R3). -/
def Layout.presentTarget (l : Layout) (n : Nat) : Option Target :=
  (targetOf n).filter l.targetPresent

/-- The present zone a number names (R101). -/
def Layout.presentZone (l : Layout) (n : Nat) : Option Zone :=
  (zoneOf n).filter l.zonePresent

/-- The value of a LAYOUT_WRITE for an item: signed items in two's complement (R176). -/
def RxFrame.itemValue (f : RxFrame) (i : Item) : Int :=
  if i.signed then f.int16 3 else (f.num16 3 : Nat)

end Sys2Proof.Machine
end

