-- ==== Sys2Proof/Machine/Flags.lean ====
section
/-! DEFINITION. The flags of a record: CLAMPED with the clamping of a post (R12, R13), and NO_TEMP, NO_COOL,
COLD_ENGINE as an allocation writes them (R74, R95, R96, R97). -/

namespace Sys2Proof.Machine

/-- What a post stores: the level and value after R12, and whether a field was clamped (R13). -/
structure PostFields where
  level   : Option Nat
  value   : Option Nat
  clamped : Bool
  deriving DecidableEq, Repr

/-- A posted level of DEFROST or COMFORT, `taken` after the rule for 0, lowered to 10 and to the station maximum
(R12); clamped when the posted level was above 10 or the level taken exceeded the maximum. -/
def clampLevel (posted taken max : Nat) : Nat × Bool :=
  (min taken max, decide (10 < posted) || decide (max < taken))

/-- Posted minutes clamped to 1 to `most` and converted to seconds (R12). -/
def clampMinutes (minutes most : Nat) : Nat × Bool :=
  (60 * clampNat 1 most minutes, decide (minutes = 0) || decide (most < minutes))

/-- The fields of a post of kind k with the posted level and value, under the station maximum (R12). -/
def clampPost (k : Kind) (max level value : Nat) : PostFields :=
  match k with
  | .defrost =>
    let l := clampLevel level (if level = 0 then 10 else min level 10) max
    { level := some l.1, value := none, clamped := l.2 }
  | .rehab =>
    let m := clampMinutes value 20
    { level := some (min 10 max), value := some m.1, clamped := decide (max < 10) || m.2 }
  | .comfort =>
    let l := clampLevel level (min level 10) max
    { level := some l.1, value := some (clampNat 160 300 value),
      clamped := l.2 || decide (value < 160) || decide (300 < value) }
  | .seal => { level := none, value := none, clamped := false }
  | .purge =>
    let m := clampMinutes value 30
    { level := none, value := some m.1, clamped := m.2 }
  | .fresh => { level := none, value := some (min value 1000), clamped := decide (1000 < value) }

/-- The flags of a record behind the first: the three flags of an allocation cleared (R32). -/
def RecFlags.cleared (f : RecFlags) : RecFlags := { clamped := f.clamped }

/-- NO_TEMP of a governing record (R95): its blend door is FAULTED, or it is a COMFORT record whose blend is held
because the spread is not usable. -/
def noTempFlag (k : Kind) (blendDoorFaulted spreadUsable : Bool) : Bool :=
  blendDoorFaulted || (k == .comfort && !spreadUsable)

/-- NO_COOL of a governing record (R97): it contributes to the cooling request while the clutch is LOCKED. -/
def noCoolFlag (contributes : Bool) (clutch : ClutchState) : Bool :=
  contributes && clutch == .locked

/-- COLD_ENGINE of a governing record (R74, R81, R96): a COMFORT record whose level the limit cuts, unless the outlet
damper is FAULTED. -/
def coldEngineFlag (k : Kind) (outletFaulted : Bool) (level used : Nat) : Bool :=
  k == .comfort && !outletFaulted && decide (used < level)

end Sys2Proof.Machine
end

