-- ==== Sys2Proof/Machine/Ops.lean ====
section
/-! DEFINITION. The shared operations over the demand table, the station register and the outgoing queue: reading
and writing one record, list or entry; notices (R34, R55, R58, R169); insertion and displacement (R26, R31); creation
(R7, R11, R15); retirement (R21, R22, R27). -/

namespace Sys2Proof.Machine

/-! ## Reading and writing one place -/

/-- The live record of a slot, if it holds one (R5). -/
def State.record (s : State) (n : Slot) : Option Record := s.table.slots[n.val]

/-- The slot given a record, or freed (R5). -/
def State.setSlot (s : State) (n : Slot) (r : Option Record) : State :=
  { s with table := { s.table with slots := s.table.slots.set n.val r } }

/-- The precedence list of a target (R25). -/
def State.list (s : State) (t : Target) : List Slot := s.table.lists[t.val]

/-- The precedence list of a target replaced (R25). -/
def State.setList (s : State) (t : Target) (l : List Slot) : State :=
  { s with table := { s.table with lists := s.table.lists.set t.val l } }

/-- A station's entry of the register (R41). -/
def State.entry (s : State) (st : Station) : StationEntry := s.register.entries[st.val]

/-- A station's entry replaced (R41). -/
def State.setEntry (s : State) (st : Station) (e : StationEntry) : State :=
  { s with register := { s.register with entries := s.register.entries.set st.val e } }

/-- The holder of a target's lock (R51). -/
def State.lockOf (s : State) (t : Target) : Option Station := s.register.locks[t.val]

/-- The lock of a target given to a station, or freed (R51, R53). -/
def State.setLock (s : State) (t : Target) (h : Option Station) : State :=
  { s with register := { s.register with locks := s.register.locks.set t.val h } }

/-- The configuration part of a station's entry: the live layout's row (R41). -/
def State.config (s : State) (st : Station) : StationRow := s.store.live.config st

/-- The station is defined in the live layout (R41). -/
def State.defined (s : State) (st : Station) : Bool := s.store.live.defined st

/-! ## Notices -/

/-- A record as a frame (R174): `first` is byte 0, `low` the status or reason in bits 3 to 0 of byte 1. An absent level
or value is sent as 0. -/
def Record.frame (first : Byte) (low : Nat) (n : Slot) (r : Record) : Vector Byte 8 :=
  #v[first, nibbles r.flags.code low, BitVec.ofNat 8 n.val, nibbles r.target.val r.kind.code,
     nibbles r.state.code r.station.val, nibbles (r.level.getD 0) (r.grantedLevel.getD 0),
     hiByte (word (r.value.getD 0)), loByte (word (r.value.getD 0))]

/-- A STATE, LIMIT or RETIRE notice (R174); `reason` is 0 but for RETIRE. -/
def Record.notice (c : Category) (reason : Nat) (n : Slot) (r : Record) : Vector Byte 8 :=
  r.frame (BitVec.ofNat 8 c.code) reason n

/-- An AIR notice (R174). -/
def airNotice (new old : Contamination) : Vector Byte 8 :=
  #v[BitVec.ofNat 8 Category.air.code, 0, BitVec.ofNat 8 new.code, BitVec.ofNat 8 old.code, 0, 0, 0, 0]

/-- A frame placed at the tail of the outgoing queue (R169). -/
def State.enqueue (s : State) (f : TxFrame) : State :=
  { s with link := { s.link with tx := s.link.tx ++ [f] } }

/-- The link can place a notice now: ONLINE, with 16 or fewer places used or reserved (R169). -/
def State.noticeRoom (s : State) : Bool :=
  s.link.state == .online && decide (s.link.tx.length + s.link.reserved ≤ Config.noticeLimit)

/-- A notice generated for a station: nothing for station 0 (R42) or where the mask lacks the category (R55); placed at
the tail where there is room (R169); otherwise dropped, setting the station's notice-overrun flag (R58). -/
def State.handNotice (s : State) (st : Station) (c : Category) (data : Vector Byte 8) : State :=
  if st = 0 ∨ (s.entry st).mask.getLsbD c.bit = false then s
  else if s.noticeRoom then s.enqueue { station := st, data := data }
  else s.setEntry st { s.entry st with overrun := true }

/-- A STATE notice for the record in a slot, to its owner (R34). -/
def State.stateNotice (s : State) (n : Slot) : State :=
  match s.record n with
  | none => s
  | some r => s.handNotice r.station .state (r.notice .state 0 n)

/-- A LIMIT notice for the record in a slot, to its owner (R82). -/
def State.limitNotice (s : State) (n : Slot) : State :=
  match s.record n with
  | none => s
  | some r => s.handNotice r.station .limit (r.notice .limit 0 n)

/-- The AIR notices of a change of the contamination state, in ascending station order, to the stations that are
PRESENT or SILENT (R56). -/
def State.airNotices (s : State) (new old : Contamination) : State :=
  (List.finRange 16).foldl (fun s st =>
    if (s.entry st).presence = .unseen then s else s.handNotice st .air (airNotice new old)) s

/-! ## The precedence lists -/

/-- The class of the record in a slot is at most c (R26). -/
def State.classAtMost (s : State) (c : Nat) (n : Slot) : Bool :=
  match s.record n with
  | none => false
  | some r => decide (r.kind.cls ≤ c)

/-- x put directly after the last entry that satisfies p, or at the head when there is none (R26). -/
def insertAfterLast (p : Slot → Bool) (x : Slot) : List Slot → List Slot
  | [] => [x]
  | y :: ys => if (y :: ys).any p then y :: insertAfterLast p x ys else x :: y :: ys

/-- The first entry of a target's list (R28). -/
def State.first (s : State) (t : Target) : Option Slot := (s.list t).head?

/-- The governing record of a target, with its slot (R28). -/
def State.governing (s : State) (t : Target) : Option (Slot × Record) :=
  match s.first t with
  | none => none
  | some n =>
    match s.record n with
    | none => none
    | some r => some (n, r)

/-- The former first record, judged first, set QUEUED with its STATE notice (R31). -/
def State.displace (s : State) (n : Slot) : State :=
  match s.record n with
  | none => s
  | some r =>
    if r.state.judgedFirst then (s.setSlot n (some { r with state := .queued })).stateNotice n else s

/-- A record put into a free slot and inserted into its target's list (R26), displacing the former first record where
it goes to the head (R31). -/
def State.insert (s : State) (n : Slot) (r : Record) : State :=
  let old := s.list r.target
  let s' := (s.setSlot n (some r)).setList r.target (insertAfterLast (s.classAtMost r.kind.cls) n old)
  match old with
  | [] => s'
  | m :: _ => if old.any (s.classAtMost r.kind.cls) then s' else s'.displace m

/-- The counter after one more record (R7). -/
def nextPostSeq (n : Nat) : Nat := if n < Config.maxPostSeq then n + 1 else n

/-- A new record created in a slot: it takes the next post sequence (R7), its station's remaining quota falls by one
(R45), and it is inserted (R26). -/
def State.create (s : State) (n : Slot) (r : Record) : State :=
  let e := s.entry r.station
  let s' := s.setEntry r.station { e with quota := e.quota - 1 }
  let s'' := { s' with table := { s'.table with postSeq := nextPostSeq s.table.postSeq } }
  s''.insert n { r with postSeq := s.table.postSeq }

/-- The slot of the live record with a key (R9). -/
def State.findKey (s : State) (t : Target) (st : Station) (k : Kind) : Option Slot :=
  (List.finRange 40).find? (fun n =>
    match s.record n with
    | none => false
    | some r => r.target == t && r.station == st && r.kind == k)

/-- The lowest-numbered free slot among 0 to 37 (R6). -/
def State.freeExternal (s : State) : Option Slot :=
  (List.finRange 40).find? (fun n => decide (n.val < Config.externalSlots) && (s.record n).isNone)

/-! ## Retirement -/

/-- A record retired: its slot is freed, it leaves its list, its station's remaining quota rises by one (R21, R27,
R45). A free slot is left as it is. -/
def State.retire (s : State) (n : Slot) : State :=
  match s.record n with
  | none => s
  | some r =>
    let e := s.entry r.station
    ((s.setSlot n none).setList r.target ((s.list r.target).filter (· != n))).setEntry r.station
      { e with quota := e.quota + 1 }

/-- A record retired by EXPIRED, LAPSED or PARKED, with the RETIRE notice to its owner, carrying the record as it stood
(R21). -/
def State.retireNoticed (s : State) (reason : Reason) (n : Slot) : State :=
  match s.record n with
  | none => s
  | some r => (s.retire n).handNotice r.station .retire (r.notice .retire reason.code n)

/-- The record in a slot retired with a reason where it satisfies p. -/
def State.retireIf (s : State) (reason : Reason) (p : Record → Bool) (n : Slot) : State :=
  match s.record n with
  | none => s
  | some r => if p r then s.retireNoticed reason n else s

/-- Every live record that satisfies p retired with a reason, one by one in ascending slot order (R22). -/
def State.retireAll (s : State) (reason : Reason) (p : Record → Bool) : State :=
  (List.finRange 40).foldl (fun s n => s.retireIf reason p n) s

/-! ## Internal records -/

/-- The slot of an internal record (R5). -/
def sealSlot : Slot := 38
/-- The slot of the internal PURGE record (R5). -/
def purgeSlot : Slot := 39

/-- An internal post of kind k, with a value, to its slot: a record of station 0 on the intake when the slot is free,
nothing otherwise (R15). -/
def State.internalPost (s : State) (n : Slot) (k : Kind) (value : Option Nat) : State :=
  match s.record n with
  | some _ => s
  | none => s.create n
      { target := intakeTarget, station := 0, kind := k, postSeq := 0, level := none, value := value,
        grantedFlow := none, grantedLevel := none }

/-- The internal post of SEAL (R15, R125). -/
def State.postSeal (s : State) : State := s.internalPost sealSlot .seal none

/-- The internal post of PURGE, with the internal purge duration (R15, R127). -/
def State.postPurge (s : State) : State :=
  s.internalPost purgeSlot .purge (some (60 * s.store.live.purgeMinutes))

/-- The mode is HOMING or RUN, the modes in which the monitor posts (R125, R127). -/
def State.serving (s : State) : Bool := s.modes.mode == .homing || s.modes.mode == .run

end Sys2Proof.Machine
end

