-- ==== Sys2Proof/Machine/Clutch.lean ====
section
/-! DEFINITION. The clutch control and the coolant valve (chapter 6), and the meanings of GUARD_TIMER_EXPIRY,
MINIMUM_ON_TIMER_EXPIRY, HIGH_PRESSURE_SWITCH_CHANGE and PRESSURE_HOLD_EXPIRY. -/

namespace Sys2Proof.Machine

/-- At least one lockout holds (R106). -/
def Lockouts.any (l : Lockouts) : Bool := l.ambient || l.freeze || l.pressure || l.supply || l.sensor

/-- The clutch output: engaged in ON alone (R105). -/
def CoolantControl.engaged (c : CoolantControl) : Bool := c.clutch == .on

/-- The clutch engages: ON, with the minimum-on timer started (R111, R113). -/
def CoolantControl.engage (c : CoolantControl) : CoolantControl :=
  { c with clutch := .on, guardTimer := none, minOnTimer := some Config.minimumOnTime }

/-- The clutch is released: the guard timer starts at 30 s and the minimum-on timer stops (R112, R115). -/
def CoolantControl.release (c : CoolantControl) (into : ClutchState) : CoolantControl :=
  { c with clutch := into, guardTimer := some Config.guardTime, minOnTimer := none }

/-- A lockout comes to hold: OFF goes to LOCKED without guard time (R111), ON is released into LOCKED (R112), GUARD and
LOCKED stay (R113, R114). -/
def CoolantControl.lockoutComes (c : CoolantControl) : CoolantControl :=
  match c.clutch with
  | .off => { c with clutch := .locked, guardTimer := none }
  | .on => c.release .locked
  | .guard => c
  | .locked => c

/-- All lockouts clear: LOCKED goes to GUARD while the guard timer runs, else to OFF, and from there to ON at once when
the request is present (R114). -/
def CoolantControl.lockoutsClear (c : CoolantControl) : CoolantControl :=
  match c.clutch with
  | .locked =>
    if c.guardTimer.isSome then { c with clutch := .guard }
    else if c.cooling then c.engage
    else { c with clutch := .off }
  | .off => c
  | .on => c
  | .guard => c

/-- The lockouts of one event, judged once after all of them have been updated (R106). -/
def CoolantControl.judge (c : CoolantControl) (l : Lockouts) : CoolantControl :=
  let c' := { c with lockouts := l }
  if !c.lockouts.any && l.any then c'.lockoutComes
  else if c.lockouts.any && !l.any then c'.lockoutsClear
  else c'

/-- The cooling request handed (R105): a request arriving engages from OFF (R111); a request going releases from ON once
the minimum-on timer has expired (R112); otherwise the value is kept. -/
def CoolantControl.handCooling (c : CoolantControl) (request : Bool) : CoolantControl :=
  let c' := { c with cooling := request }
  match c.clutch with
  | .off => if request && !c.cooling && !c.lockouts.any then c'.engage else c'
  | .on => if !request && c.cooling && c.minOnTimer.isNone then c'.release .guard else c'
  | .guard => c'
  | .locked => c'

/-- The heat request handed: the valve follows it (R116). -/
def CoolantControl.handHeat (c : CoolantControl) (request : Bool) : CoolantControl :=
  { c with valveOpen := request }

/-- The guard timer expires (R113, R114). -/
def CoolantControl.guardExpiry (c : CoolantControl) : CoolantControl :=
  match c.guardTimer with
  | none => c
  | some _ =>
    let c' := { c with guardTimer := none }
    match c.clutch with
    | .guard =>
      if c.lockouts.any then { c' with clutch := .locked }
      else if c.cooling then c'.engage
      else { c' with clutch := .off }
    | .off => c'
    | .on => c'
    | .locked => c'

/-- The minimum-on timer expires (R112). -/
def CoolantControl.minOnExpiry (c : CoolantControl) : CoolantControl :=
  match c.minOnTimer with
  | none => c
  | some _ =>
    match c.clutch with
    | .on => if c.cooling then { c with minOnTimer := none } else c.release .guard
    | .off => { c with minOnTimer := none }
    | .guard => { c with minOnTimer := none }
    | .locked => { c with minOnTimer := none }

/-- The entry into PARKED (R115, R116): an engaged clutch is released, the requests become absent without being taken
as going, the valve closes. -/
def CoolantControl.park (c : CoolantControl) : CoolantControl :=
  let c' := { c with cooling := false, valveOpen := false }
  match c.clutch with
  | .on => c'.release (if c.lockouts.any then .locked else .guard)
  | .off => c'
  | .guard => c'
  | .locked => c'

/-- The high-pressure switch opens: PRESSURE holds and a running pressure hold stops (R109). -/
def CoolantControl.pressureOpens (c : CoolantControl) : CoolantControl :=
  { c with pressureHold := none }.judge { c.lockouts with pressure := true }

/-- The high-pressure switch closes: the pressure hold starts at 60 s (R109). -/
def CoolantControl.pressureCloses (c : CoolantControl) : CoolantControl :=
  { c with pressureHold := some Config.pressureHoldTime }

/-- The pressure hold expires: PRESSURE clears with the switch closed (R109). -/
def CoolantControl.holdExpiry (c : CoolantControl) (switchOpen : Bool) : CoolantControl :=
  match c.pressureHold with
  | none => c
  | some _ =>
    let c' := { c with pressureHold := none }
    if switchOpen then c' else c'.judge { c.lockouts with pressure := false }

/-! ## The meanings -/

/-- GUARD_TIMER_EXPIRY (R113, R114). -/
def execGuardTimerExpiry (s : State) : Host.Outcome State Fault Refusal :=
  .next { s with coolant := s.coolant.guardExpiry }

/-- MINIMUM_ON_TIMER_EXPIRY (R112). -/
def execMinimumOnTimerExpiry (s : State) : Host.Outcome State Fault Refusal :=
  .next { s with coolant := s.coolant.minOnExpiry }

/-- HIGH_PRESSURE_SWITCH_CHANGE (R109); a level the switch already has is no change (log 10). -/
def execHighPressureSwitchChange (isOpen : Bool) (s : State) : Host.Outcome State Fault Refusal :=
  if s.pins.pressureOpen = isOpen then .next s
  else .next { s with
    pins := { s.pins with pressureOpen := isOpen }
    coolant := if isOpen then s.coolant.pressureOpens else s.coolant.pressureCloses }

/-- PRESSURE_HOLD_EXPIRY (R109). -/
def execPressureHoldExpiry (s : State) : Host.Outcome State Fault Refusal :=
  .next { s with coolant := s.coolant.holdExpiry s.pins.pressureOpen }

end Sys2Proof.Machine
end

