-- ==== Sys2Proof/Machine/Drive.lean ====
section
/-! DEFINITION. The actuator drive (chapter 9): conversions, motion channels and the motion queue, targets, homing,
stalls and faults, as operations on the drive. The meanings of the actuator commands stand in Machine/Doors.lean,
since the end of a homing can move the mode. -/

namespace Sys2Proof.Machine

/-- An actuator of the drive. -/
def ActuatorDrive.act (d : ActuatorDrive) (a : ActuatorId) : Actuator := d.actuators[a.val]

/-- An actuator replaced. -/
def ActuatorDrive.setAct (d : ActuatorDrive) (a : ActuatorId) (x : Actuator) : ActuatorDrive :=
  { d with actuators := d.actuators.set a.val x }

/-- A position in permille as steps of the travel: round half up (R150). -/
def toSteps (travel target : Nat) : Nat := roundDiv (travel * target) 1000

/-- A step position as permille of the travel: round half up (R150). -/
def toPermille (travel steps : Nat) : Nat := roundDiv (1000 * steps) travel

/-- The travel, 0 while it is not measured (log 24). -/
def Actuator.travelOr0 (x : Actuator) : Nat := x.travel.getD 0

/-- The step position, 0 while it is unknown (log 24). -/
def Actuator.stepOr0 (x : Actuator) : Nat := x.step.getD 0

/-- The target's step value with the current travel (R150, R155). -/
def Actuator.targetSteps (x : Actuator) : Nat := toSteps x.travelOr0 x.target

/-- In motion: HOMING, REHOMING or MOVING, the states that hold a motion channel (R151). -/
def Actuator.inMotion (x : Actuator) : Bool :=
  match x.state with
  | .homing | .rehoming | .moving => true
  | .unhomed | .ready | .faulted => false

/-- How many motion channels are held (R153). -/
def ActuatorDrive.busy (d : ActuatorDrive) : Nat := d.actuators.toList.countP Actuator.inMotion

/-- Waiting: in the motion queue (R149, log 23). -/
def ActuatorDrive.waiting (d : ActuatorDrive) (a : ActuatorId) : Bool := d.queue.contains a

/-- The closing phase begins (R152): the step position is unknown. -/
def Actuator.beginHoming (x : Actuator) (st : ActState) : Actuator :=
  { x with state := st, phase := .closing, step := none, count := 0 }

/-- An actuator takes a motion channel: HOMING if it was UNHOMED, MOVING if it was READY (R153). -/
def ActuatorDrive.takeChannel (d : ActuatorDrive) (a : ActuatorId) : ActuatorDrive :=
  let x := d.act a
  match x.state with
  | .unhomed => d.setAct a (x.beginHoming .homing)
  | .ready => d.setAct a { x with state := .moving }
  | .homing | .rehoming | .moving | .faulted => d

/-- An actuator needs motion: it takes a free channel, or joins the tail of the queue once (R153). -/
def ActuatorDrive.needMotion (d : ActuatorDrive) (a : ActuatorId) : ActuatorDrive :=
  if d.busy < Config.motionChannels then d.takeChannel a
  else if d.waiting a then d
  else { d with queue := d.queue ++ [a] }

/-- A channel has been freed: the oldest waiting actuator takes it (R153). -/
def ActuatorDrive.handOver (d : ActuatorDrive) : ActuatorDrive :=
  match d.queue with
  | [] => d
  | b :: rest => { d with queue := rest }.takeChannel b

/-- An actuator in motion enters READY: its rehome mark clears and its channel is freed (R155, R156). -/
def ActuatorDrive.enterReady (d : ActuatorDrive) (a : ActuatorId) : ActuatorDrive :=
  (d.setAct a { d.act a with state := .ready, phase := .none, rehomeMark := false }).handOver

/-- An actuator in motion enters FAULTED with a reason: it stops and its channel is freed (R157). DESIGN CHOICE (log 28):
where the fault comes during a homing, the homing phase becomes none; R152 sets it so only at the end of a homing. -/
def ActuatorDrive.enterFaulted (d : ActuatorDrive) (a : ActuatorId) (reason : FaultReason) : ActuatorDrive :=
  (d.setAct a { d.act a with state := .faulted, phase := .none, reason := reason }).handOver

/-- The target lies within the deadband of the reported position (R155). -/
def Actuator.withinDeadband (x : Actuator) (t : Nat) : Bool :=
  decide (t ≤ x.reported + Config.deadband) && decide (x.reported ≤ t + Config.deadband)

/-- A target handed to a present actuator, by its state (R155). -/
def ActuatorDrive.handTarget (d : ActuatorDrive) (a : ActuatorId) (t : Nat) : ActuatorDrive :=
  let x := d.act a
  let x' := { x with target := t }
  match x.state with
  | .unhomed | .homing | .rehoming => d.setAct a x'
  | .ready =>
    if d.waiting a then
      if x'.targetSteps = x.stepOr0 then { d.setAct a x' with queue := d.queue.filter (· != a) }
      else d.setAct a x'
    else if x.withinDeadband t then d
    else (d.setAct a x').needMotion a
  | .moving =>
    if x'.targetSteps = x.stepOr0 then (d.setAct a x').enterReady a else d.setAct a x'
  | .faulted => d

/-- One step of an actuator in motion (R152, R155): a step of the closing or opening phase is counted, a step of a move
goes towards the target and gives the reported position anew (R150). No step follows the last one of a phase. -/
def Actuator.drive (x : Actuator) (travelHigh : Nat) : Actuator :=
  match x.state with
  | .homing | .rehoming =>
    match x.phase with
    | .closing => if x.count < Config.closingSteps then { x with count := x.count + 1 } else x
    | .opening => if x.count ≤ travelHigh then { x with count := x.count + 1 } else x
    | .none => x
  | .moving =>
    let n := if x.stepOr0 < x.targetSteps then x.stepOr0 + 1 else x.stepOr0 - 1
    if x.stepOr0 = x.targetSteps then x
    else { x with step := some n, reported := toPermille x.travelOr0 n }
  | .unhomed | .ready | .faulted => x

/-- The homing is over, with the travel measured: the actuator is READY when its target is where it stands, and moves
towards it otherwise (R152). -/
def ActuatorDrive.homed (d : ActuatorDrive) (a : ActuatorId) (travel : Nat) : ActuatorDrive :=
  let x := { d.act a with phase := .none, travel := some travel, step := some travel, reported := 1000 }
  if x.targetSteps = travel then (d.setAct a x).enterReady a
  else d.setAct a { x with state := .moving }

/-- A stall during a homing (R152): the closing phase ends at step 0; the opening phase ends with the travel measured, or
with the fault TRAVEL when the count is below the lower limit or has passed the upper. -/
def ActuatorDrive.homingStall (d : ActuatorDrive) (a : ActuatorId) (low high : Nat) : ActuatorDrive :=
  let x := d.act a
  match x.state with
  | .homing | .rehoming =>
    match x.phase with
    | .closing => d.setAct a { x with phase := .opening, step := some 0, reported := 0, count := 0 }
    | .opening => if low ≤ x.count ∧ x.count ≤ high then d.homed a x.count else d.enterFaulted a .travel
    | .none => d
  | .unhomed | .ready | .moving | .faulted => d

/-- 5000 closing steps have passed without a stall: FAULTED with NO_STOP (R152). -/
def ActuatorDrive.noStop (d : ActuatorDrive) (a : ActuatorId) : ActuatorDrive :=
  let x := d.act a
  if x.inMotion ∧ x.phase = .closing ∧ Config.closingSteps ≤ x.count then d.enterFaulted a .noStop else d

/-- The opening count has passed the upper limit without a stall: FAULTED with TRAVEL (R152). -/
def ActuatorDrive.travelOverrun (d : ActuatorDrive) (a : ActuatorId) (high : Nat) : ActuatorDrive :=
  let x := d.act a
  if x.inMotion ∧ x.phase = .opening ∧ high < x.count then d.enterFaulted a .travel else d

/-- A stall while MOVING, before the target is reached (R156): a rehoming on the same channel, or the fault STALL when
the rehome mark is set. -/
def ActuatorDrive.stall (d : ActuatorDrive) (a : ActuatorId) : ActuatorDrive :=
  let x := d.act a
  if x.state = .moving ∧ x.stepOr0 ≠ x.targetSteps then
    if x.rehomeMark then d.enterFaulted a .stall
    else d.setAct a ({ x with rehomeMark := true }.beginHoming .rehoming)
  else d

/-- A move is complete when the step position equals the target's step value (R155). -/
def ActuatorDrive.moveComplete (d : ActuatorDrive) (a : ActuatorId) : ActuatorDrive :=
  let x := d.act a
  if x.state = .moving ∧ x.stepOr0 = x.targetSteps then d.enterReady a else d

/-! ## On the machine -/

/-- Actuator a is present (R149). -/
def State.actPresent (s : State) (a : ActuatorId) : Bool := s.store.live.actuatorPresent a

/-- A target handed to an actuator; an absent one is not driven (R149, R155). -/
def State.handTarget (s : State) (a : ActuatorId) (t : Nat) : State :=
  if s.actPresent a then { s with drive := s.drive.handTarget a t } else s

/-- Targets handed by one event, taken one by one in the order of the list (R153). -/
def State.handTargets (s : State) (l : List (ActuatorId × Nat)) : State :=
  l.foldl (fun s p => s.handTarget p.1 p.2) s

/-- The intake door (R149). -/
def intakeDoor : ActuatorId := 0

/-- The outlet damper of a zone, A1 to A8 (R149). -/
def outletOf (z : Zone) : ActuatorId := ⟨1 + z.val, by have := z.isLt; omega⟩

/-- The blend door of a zone, A9 to A16 (R149). -/
def blendDoorOf (z : Zone) : ActuatorId := ⟨9 + z.val, by have := z.isLt; omega⟩

/-- An actuator is FAULTED (R151). -/
def State.actFaulted (s : State) (a : ActuatorId) : Bool := (s.drive.act a).state == .faulted

/-- Every present actuator satisfies p. -/
def State.everyActuator (s : State) (p : Actuator → Bool) : Bool :=
  (List.finRange 17).all (fun a => !s.actPresent a || p (s.drive.act a))

/-- Homing is finished: no present actuator is UNHOMED or HOMING (R184). -/
def State.homingFinished (s : State) : Bool :=
  s.everyActuator (fun x => x.state != .unhomed && x.state != .homing)

/-- Every present actuator is READY or FAULTED, at which homing completes (R184). -/
def State.allSettled (s : State) : Bool :=
  s.everyActuator (fun x => x.state == .ready || x.state == .faulted)

end Sys2Proof.Machine
end

