-- ==== Sys2Proof/Machine/Modes.lean ====
section
/-! DEFINITION. The entries into HOMING, RUN and PARKED and the completion of homing (R125, R127, R154, R158, R184,
R185), and the meanings of IGNITION_INPUT_CHANGE and IGNITION_DEBOUNCE_EXPIRY (R183). -/

namespace Sys2Proof.Machine

/-- The mode replaced. -/
def State.setMode (s : State) (m : Mode) : State := { s with modes := { s.modes with mode := m } }

/-- The internal records that an entry into HOMING or RUN calls for: SEAL in CONTAMINATED (R125), PURGE while CAB_HIGH
(R127); in this order, log 17. -/
def State.monitorPosts (s : State) : State :=
  let s' := if s.air.contamination = .contaminated then s.postSeal else s
  if s'.air.cabHigh then s'.postPurge else s'

/-- Actuator a needs motion if it is present, UNHOMED and not waiting (R154). -/
def State.homeOne (s : State) (a : ActuatorId) : State :=
  if s.actPresent a = true ∧ (s.drive.act a).state = .unhomed ∧ s.drive.waiting a = false then
    { s with drive := s.drive.needMotion a }
  else s

/-- The present actuators that are UNHOMED and not waiting need motion, in ascending number (R154). -/
def State.startHoming (s : State) : State := (List.finRange 17).foldl State.homeOne s

/-- The entry into HOMING (R154, R125, R127). -/
def State.enterHoming (s : State) : State := ((s.setMode .homing).startHoming).monitorPosts

/-- The entry into RUN (R184, R125, R127). -/
def State.enterRun (s : State) : State := (s.setMode .run).monitorPosts

/-- The zone climate computer at rest: its zones not served and not set, no flow, no duty, no request; the levels, the
available flow and the timer are kept (R84, R94). -/
def ClimateComputer.rest (c : ClimateComputer) : ClimateComputer :=
  { c with zones := Vector.replicate 8 {}, blowerFlow := 0, blowerDuty := 0, coolingRequest := false,
           heatRequest := false }

/-- The intake controller at the entry into PARKED (R128, R135). -/
def IntakeController.park (i : IntakeController) : IntakeController :=
  { i with doorTarget := 0, pressurizing := false, steppedDuty := none, outputDuty := 0, boostTimer := none }

/-- The entry into PARKED (R185): every record retired (R22), every lock freed (R54), the computers at rest (R84, R135),
both fans at duty 0 (R159, R161), the clutch released and the valve closed (R115, R116), every present actuator
handed its park position in ascending number (R158). -/
def State.enterParked (s : State) : State :=
  let s1 := (s.setMode .parked).retireAll .parked (fun _ => true)
  let s2 := { s1 with
    register := { s1.register with locks := Vector.replicate 9 none }
    climate := s1.climate.rest
    coolant := s1.coolant.park
    intake := s1.intake.park
    fans := { s1.fans with blowerDuty := 0, fanDuty := 0 } }
  s2.handTargets ((List.finRange 17).map (fun a => (a, parkPosition a)))

/-- In HOMING, the event at which every present actuator is READY or FAULTED completes homing: the mode enters RUN with
the debounced ignition on and PARKED with it off (R184). -/
def State.homingCheck (s : State) : State :=
  if s.modes.mode = .homing ∧ s.allSettled = true then
    if s.modes.ignition then s.enterRun else s.enterParked
  else s

/-- An ignition change (R184, R185): off takes HOMING and RUN to PARKED; on takes PARKED to RUN when homing is finished and
to HOMING when it is not; otherwise the mode stays. -/
def State.ignitionChange (s : State) (isOn : Bool) : State :=
  match s.modes.mode, isOn with
  | .homing, false => s.enterParked
  | .run, false => s.enterParked
  | .parked, true => if s.homingFinished then s.enterRun else s.enterHoming
  | .start, _ => s
  | .homing, true => s
  | .run, true => s
  | .parked, false => s

/-- IGNITION_INPUT_CHANGE (R183): the debounce timer starts or restarts at 500 ms; a level the input already has is no
change (log 10). -/
def execIgnitionInputChange (isOn : Bool) (s : State) : Host.Outcome State Fault Refusal :=
  if s.pins.ignition = isOn then .next s
  else .next { s with
    pins := { s.pins with ignition := isOn }
    modes := { s.modes with debounce := some Config.debounceTime } }

/-- The debounce timer stopped and the debounced ignition at the input's level (R183). -/
def State.debounced (s : State) : State :=
  { s with modes := { s.modes with debounce := none, ignition := s.pins.ignition } }

/-- The debounce timer expires (R183): the debounced ignition takes the input's level, and a difference is an ignition
change. -/
def State.debounceExpiry (s : State) : State :=
  match s.modes.debounce with
  | none => s
  | some _ =>
    if s.modes.ignition = s.pins.ignition then s.debounced else s.debounced.ignitionChange s.pins.ignition

/-- IGNITION_DEBOUNCE_EXPIRY (R183, R184, R185). -/
def execIgnitionDebounceExpiry (s : State) : Host.Outcome State Fault Refusal :=
  .next s.debounceExpiry.homingCheck

end Sys2Proof.Machine
end

