-- ==== Sys2Proof/Machine/Air.lean ====
section
/-! DEFINITION. The air quality monitor (7.1, 7.2): judged readings, the contamination state and its timers, CAB_HIGH,
the internal records, and the meanings of DWELL_TIMER_EXPIRY, CLEAR_HOLD_EXPIRY and CAB_CLEAR_HOLD_EXPIRY. -/

namespace Sys2Proof.Machine

/-- A sample arrival of one channel: the value carried, if any, and the faulted flag (R145). -/
structure Arrival where
  value   : Option Int
  faulted : Bool
  deriving DecidableEq, Repr

/-- A judged reading is at or above a threshold; none is not (R119). -/
def readingAt (reading : Option Int) (threshold : Nat) : Bool :=
  match reading with
  | none => false
  | some v => decide ((threshold : Int) ≤ v)

/-- The alarm condition (R119). -/
def AirMonitor.alarm (m : AirMonitor) (l : Layout) : Bool :=
  readingAt m.judgedCo l.coAlarm || readingAt m.judgedParticle l.particulateAlarm

/-- The suspect condition (R119). -/
def AirMonitor.suspect (m : AirMonitor) (l : Layout) : Bool :=
  readingAt m.judgedCo l.coSuspect || readingAt m.judgedParticle l.particulateSuspect

/-- A timer started at a number of seconds. -/
def seconds (n : Nat) : Timer := some (1000 * n)

/-- The monitor replaced. -/
def State.setAir (s : State) (m : AirMonitor) : State := { s with air := m }

/-- The entry into CONTAMINATED while the mode is HOMING or RUN: the door target is 0 and handed to A0 at once, and SEAL
is posted (R125). -/
def State.sealIntake (s : State) : State :=
  if s.serving then
    (({ s with intake := { s.intake with doorTarget := 0 } }).handTarget intakeDoor 0).postSeal
  else s

/-- A change of the contamination state to `new`: the AIR notices (R56, R124), then the entry's effect on the intake and
slot 38 (R125). A judgement that leaves the state as it was does none of it. -/
def State.setContamination (s : State) (new : Contamination) : State :=
  if s.air.contamination = new then s
  else
    let s' := (s.setAir { s.air with contamination := new }).airNotices new s.air.contamination
    match new with
    | .clear => s'.retire sealSlot
    | .suspect => s'
    | .contaminated => s'.sealIntake

/-- The start of evaluation (R120). -/
def State.startEvaluation (s : State) : State :=
  let l := s.store.live
  let s' := s.setAir { s.air with evaluating := true }
  if s.air.alarm l then s'.setContamination .contaminated
  else if s.air.suspect l then s'.setAir { s'.air with dwellTimer := seconds l.suspectDwell }
  else s'.setContamination .clear

/-- Evaluation starts once both judged readings are other than none (R120). -/
def State.evaluationReady (s : State) : Bool :=
  !s.air.evaluating && s.air.judgedCo.isSome && s.air.judgedParticle.isSome

/-- The monitor acts on the judged readings, by its state (R121). -/
def State.judgeAir (s : State) : State :=
  let l := s.store.live
  let m := s.air
  if m.alarm l then
    match m.contamination with
    | .clear => s.setContamination .contaminated
    | .suspect => (s.setAir { m with dwellTimer := none }).setContamination .contaminated
    | .contaminated => s.setAir { m with clearHoldTimer := none }
  else if m.suspect l then
    match m.contamination with
    | .clear => (s.setAir { m with dwellTimer := seconds l.suspectDwell }).setContamination .suspect
    | .suspect => s
    | .contaminated => s.setAir { m with clearHoldTimer := none }
  else
    match m.contamination with
    | .clear => s
    | .suspect => (s.setAir { m with dwellTimer := none }).setContamination .clear
    | .contaminated =>
      if m.clearHoldTimer.isSome then s else s.setAir { m with clearHoldTimer := seconds l.clearHold }

/-- The judged reading an arrival gives: the threshold when faulted, the value when valid, otherwise as it was (R119). -/
def judgedReading (old : Option Int) (a : Arrival) (threshold : Nat) : Option Int :=
  if a.faulted then some threshold
  else match a.value with
    | some v => some v
    | none => old

/-- After a judged reading has been updated: the start of evaluation, or the judgement of R121. -/
def State.afterReading (s : State) : State :=
  if s.air.evaluating then s.judgeAir
  else if s.evaluationReady then s.startEvaluation
  else s

/-- A channel 11 arrival (R119 to R121); one neither valid nor faulted changes nothing (R145). -/
def State.onIntakeCo (s : State) (a : Arrival) : State :=
  if a.faulted = false ∧ a.value = none then s
  else (s.setAir { s.air with judgedCo := judgedReading s.air.judgedCo a s.store.live.coSuspect }).afterReading

/-- A channel 12 arrival (R119 to R121). -/
def State.onIntakeParticulate (s : State) (a : Arrival) : State :=
  if a.faulted = false ∧ a.value = none then s
  else (s.setAir { s.air with
    judgedParticle := judgedReading s.air.judgedParticle a s.store.live.particulateSuspect }).afterReading

/-- CAB_HIGH becomes true: PURGE is posted in HOMING or RUN (R126, R127). -/
def State.raiseCabHigh (s : State) : State :=
  let s' := s.setAir { s.air with cabHigh := true }
  if s.serving then s'.postPurge else s'

/-- A channel 13 arrival (R126, R127). -/
def State.onCabCo (s : State) (a : Arrival) : State :=
  let l := s.store.live
  if a.faulted then s.setAir { s.air with cabHigh := false, cabClearTimer := none }
  else match a.value with
    | none => s
    | some v =>
      if s.air.cabHigh = false then
        if (l.cabHigh : Int) ≤ v then s.raiseCabHigh else s
      else if v < (l.cabClear : Int) then
        if s.air.cabClearTimer.isSome then s
        else s.setAir { s.air with cabClearTimer := seconds l.cabClearHold }
      else s.setAir { s.air with cabClearTimer := none }

/-- The dwell timer expires in SUSPECT: CONTAMINATED (R122). -/
def State.dwellExpiry (s : State) : State :=
  match s.air.dwellTimer with
  | none => s
  | some _ =>
    let s' := s.setAir { s.air with dwellTimer := none }
    if s.air.contamination = .suspect then s'.setContamination .contaminated else s'

/-- The clear-hold timer expires in CONTAMINATED: CLEAR, with slot 38 retired (R123, R125). -/
def State.clearHoldExpiry (s : State) : State :=
  match s.air.clearHoldTimer with
  | none => s
  | some _ =>
    let s' := s.setAir { s.air with clearHoldTimer := none }
    if s.air.contamination = .contaminated then s'.setContamination .clear else s'

/-- The cab clear-hold timer expires: CAB_HIGH falls and slot 39 is retired with CLEARED (R126, R127). -/
def State.cabClearExpiry (s : State) : State :=
  match s.air.cabClearTimer with
  | none => s
  | some _ => (s.setAir { s.air with cabHigh := false, cabClearTimer := none }).retire purgeSlot

/-- DWELL_TIMER_EXPIRY (R122); A0's target may end a move and so homing (log 18). -/
def execDwellTimerExpiry (s : State) : Host.Outcome State Fault Refusal :=
  .next s.dwellExpiry.homingCheck

/-- CLEAR_HOLD_EXPIRY (R123). -/
def execClearHoldExpiry (s : State) : Host.Outcome State Fault Refusal :=
  .next s.clearHoldExpiry

/-- CAB_CLEAR_HOLD_EXPIRY (R126). -/
def execCabClearHoldExpiry (s : State) : Host.Outcome State Fault Refusal :=
  .next s.cabClearExpiry

end Sys2Proof.Machine
end

