-- ==== Sys2Proof/Machine/Scanning.lean ====
section
/-! DEFINITION. The sensor scanner (chapter 8): the range check, scaling and filter of one conversion, the delivery of
its sample arrival, the voltage level (R66, R67) and the lockouts judged at arrivals (R106 to R108); the meanings of
SCAN_TIMER_EXPIRY and CONVERSION_COMPLETE. -/

namespace Sys2Proof.Machine

/-- The engineering value of a raw value by the thermistor table (R142). -/
def thermistorValue (table : Vector Int 9) (raw : BitVec 12) : Int :=
  let r := raw.toNat
  let i := r / 512
  let lo := table[i]'(by have := raw.isLt; omega)
  let hi := table[i + 1]'(by have := raw.isLt; omega)
  lo + ((hi - lo) * ((r - 512 * i : Nat) : Int)).tdiv 512

/-- The engineering value of a raw value by linear scaling (R143). -/
def linearValue (scale : ScaleRow) (raw : BitVec 12) : Int :=
  scale.lo + roundDivInt ((scale.hi - scale.lo) * (raw.toNat : Int)) 4095

/-- The engineering value of a channel (R138, R142, R143). -/
def engineeringValue (l : Layout) (c : ChannelId) (raw : BitVec 12) : Int :=
  if h : c.val ≤ 10 then thermistorValue l.thermistor raw
  else linearValue (l.scaling[c.val - 11]'(by have := c.isLt; omega)) raw

/-- The filter constant of a channel (R138). -/
def filterConstant (c : ChannelId) : Int :=
  if c.val ≤ 10 then 4 else if c.val ≤ 14 then 2 else 1

/-- The raw value is in range (R141). -/
def rawInRange (raw : BitVec 12) : Bool :=
  decide (Config.rawLow ≤ raw.toNat) && decide (raw.toNat ≤ Config.rawHigh)

/-- The filtered value after a valid sample x: set to x while there is none, moved by trunc((x - v) / k) otherwise
(R144). -/
def filterStep (k : Int) (old : Option Int) (x : Int) : Int :=
  match old with
  | none => x
  | some v => v + (x - v).tdiv k

/-- An out-of-range sample in AWAITING or VALID: the third in a row declares the channel FAULTED (R141). -/
def Channel.countBad (ch : Channel) : Channel :=
  if ch.outOfRange + 1 < Config.faultCount then { ch with outOfRange := ch.outOfRange + 1 }
  else { ch with condition := .faulted, outOfRange := Config.faultCount, recovery := 0 }

/-- A channel after one conversion: x is the engineering value of an in-range sample, none for an out-of-range one
(R141, R144). -/
def Channel.sample (ch : Channel) (k : Int) (x : Option Int) : Channel :=
  match ch.condition, x with
  | .absent, _ => ch
  | .awaiting, some x =>
    { ch with condition := .valid, filtered := some (filterStep k ch.filtered x), outOfRange := 0 }
  | .valid, some x => { ch with filtered := some (filterStep k ch.filtered x), outOfRange := 0 }
  | .awaiting, none => ch.countBad
  | .valid, none => ch.countBad
  | .faulted, some x =>
    if ch.recovery + 1 < Config.recoveryCount then { ch with recovery := ch.recovery + 1 }
    else { condition := .valid, filtered := some x, outOfRange := 0, recovery := 0 }
  | .faulted, none => { ch with recovery := 0 }

/-- The arrival a channel delivers (R145). -/
def Channel.arrival (ch : Channel) : Arrival :=
  match ch.condition with
  | .valid => { value := ch.filtered, faulted := false }
  | .faulted => { value := ch.filtered, faulted := true }
  | .awaiting => { value := none, faulted := false }
  | .absent => { value := none, faulted := false }

/-- A channel of the scanner. -/
def State.channel (s : State) (c : ChannelId) : Channel := s.scanner.channels[c.val]

/-- The filtered value of a healthy channel: one whose condition is VALID (R86, R139). -/
def State.healthy (s : State) (c : ChannelId) : Option Int :=
  if (s.channel c).condition = .valid then (s.channel c).filtered else none

/-! ## The voltage level -/

/-- The entry level of a voltage (R66). -/
def entryLevel (v : Int) : Nat := if v < 110 then 3 else if v < 115 then 2 else if v < 120 then 1 else 0

/-- The greatest level not above `current` whose leaving threshold v is below, or 0 (R66). -/
def heldLevel (current : Nat) (v : Int) : Nat :=
  if 3 ≤ current ∧ v < 112 then 3
  else if 2 ≤ current ∧ v < 117 then 2
  else if 1 ≤ current ∧ v < 122 then 1
  else 0

/-- The voltage level after an arrival that is not faulted (R66). -/
def voltageLevel (current : Nat) (v : Int) : Nat :=
  if current < entryLevel v then entryLevel v else heldLevel current v

/-- A channel 15 arrival (R66, R67). -/
def State.onVoltage (s : State) (a : Arrival) : State :=
  let level :=
    if a.faulted then 0
    else match a.value with
      | none => s.climate.voltageLevel
      | some v => voltageLevel s.climate.voltageLevel v
  { s with climate := { s.climate with voltageLevel := level } }

/-! ## The lockouts judged at arrivals -/

/-- A condition that holds below `low`, clears at or above `high`, and keeps its value between (R106). -/
def hysteresis (held : Bool) (low high v : Int) : Bool :=
  if v < low then true else if high ≤ v then false else held

/-- The lockouts after a channel 8 arrival (R106, R108). -/
def Lockouts.onCold (l : Lockouts) (a : Arrival) : Lockouts :=
  if a.faulted then { l with sensor := true }
  else match a.value with
    | none => { l with sensor := true }
    | some v => { l with sensor := false, freeze := hysteresis l.freeze 10 40 v }

/-- The lockouts after a channel 10 arrival; a faulted one counts as 100 (R107). -/
def Lockouts.onOutside (l : Lockouts) (a : Arrival) : Lockouts :=
  if a.faulted then { l with ambient := hysteresis l.ambient 20 40 100 }
  else match a.value with
    | none => l
    | some v => { l with ambient := hysteresis l.ambient 20 40 v }

/-- A channel 8 arrival at the clutch control (R108). -/
def State.onCold (s : State) (a : Arrival) : State :=
  { s with coolant := s.coolant.judge (s.coolant.lockouts.onCold a) }

/-- A channel 10 arrival at the clutch control (R107). -/
def State.onOutside (s : State) (a : Arrival) : State :=
  { s with coolant := s.coolant.judge (s.coolant.lockouts.onOutside a) }

/-! ## The scan -/

/-- The arrival delivered to the blocks that act on it as an event (R138, R145). The zone climate computer (channels 0 to
9) and the intake controller (channel 14) read the scanner's channels at their own periods. -/
def State.deliver (s : State) (c : ChannelId) (a : Arrival) : State :=
  match c.val with
  | 8 => s.onCold a
  | 10 => s.onOutside a
  | 11 => s.onIntakeCo a
  | 12 => s.onIntakeParticulate a
  | 13 => s.onCabCo a
  | 15 => s.onVoltage a
  | _ => s

/-- A channel replaced. -/
def State.setChannel (s : State) (c : ChannelId) (ch : Channel) : State :=
  { s with scanner := { s.scanner with channels := s.scanner.channels.set c.val ch } }

/-- The conversion of channel c completes with a raw value (R141, R144, R145). -/
def State.convert (s : State) (c : ChannelId) (raw : BitVec 12) : State :=
  let x := if rawInRange raw then some (engineeringValue s.store.live c raw) else none
  let ch := (s.channel c).sample (filterConstant c) x
  (s.setChannel c ch).deliver c ch.arrival

/-- The enabled channels in ascending number (R140). -/
def Layout.enabledChannels (l : Layout) : List ChannelId := (List.finRange 16).filter l.enabled

/-- SCAN_TIMER_EXPIRY (R140): a scan begins, and the period begins again. -/
def execScanTimerExpiry (s : State) : Host.Outcome State Fault Refusal :=
  .next { s with scanner := { s.scanner with
    scan := s.store.live.enabledChannels, scanTimer := some s.store.live.scanPeriod } }

/-- CONVERSION_COMPLETE (R140, R141): the conversion the scan stands at; with no scan in progress there is none. -/
def execConversionComplete (raw : BitVec 12) (s : State) : Host.Outcome State Fault Refusal :=
  match s.scanner.scan with
  | [] => .next s
  | c :: rest => .next (({ s with scanner := { s.scanner with scan := rest } }.convert c raw).homingCheck)

end Sys2Proof.Machine
end

