-- ==== Sys2Proof/Machine/Climate.lean ====
section
/-! DEFINITION. The zone climate computer (chapters 4 and 5): the effective supply level, and one allocation in its five
stages (R65), as functions of the state the allocation finds; the meaning of ALLOCATION. -/

namespace Sys2Proof.Machine

/-! ## What a zone is served for (R71, R72) -/

/-- What a zone is served for: nothing, the synthetic demand, or its governing record with its slot (R71). -/
inductive Demand where
  | none | synthetic | record (n : Slot) (r : Record)
  deriving DecidableEq, Repr

/-- The intake's governing record is a PURGE, in whatever state (R72). -/
def State.purging (s : State) : Bool :=
  match s.governing intakeTarget with
  | Option.none => false
  | some (_, r) => r.kind == .purge

/-- What a present zone is served for (R71). -/
def State.demand (s : State) (z : Zone) : Demand :=
  match s.governing (zoneTarget z) with
  | some (n, r) => .record n r
  | Option.none => if z ≠ 0 ∧ s.purging = true then .synthetic else .none

/-- The served-for item of a demand (R64). -/
def Demand.servedFor : Demand → ServedFor
  | .none => .none
  | .synthetic => .synthetic
  | .record n _ => .slot n

/-- The kind a demand is served as: the synthetic demand is a COMFORT demand (R72). -/
def Demand.kind : Demand → Option Kind
  | .none => Option.none
  | .synthetic => some .comfort
  | .record _ r => some r.kind

/-- The demand is a COMFORT record or the synthetic demand. -/
def Demand.isComfort (d : Demand) : Bool := d.kind == some .comfort

/-- T_set of a COMFORT or synthetic demand (R72, R73). -/
def Demand.setpoint (d : Demand) (l : Layout) : Int :=
  match d with
  | .record _ r => ((r.value.getD 0 : Nat) : Int)
  | _ => (l.cabSetpoint : Int)

/-! ## Stage 0: temperatures, discharge target, blend (R86 to R93) -/

/-- The channel the zone table gives a zone (R86). -/
def zoneChannel (l : Layout) (z : Zone) : ChannelId := Fin.ofNat 16 l.zones[z.val].channel

/-- The present zones 1 to 7. -/
def Layout.cabZones (l : Layout) : List Zone := (List.finRange 8).filter (fun z => z != 0 && l.zonePresent z)

/-- The present zones. -/
def Layout.presentZones (l : Layout) : List Zone := (List.finRange 8).filter l.zonePresent

/-- The filtered values of the healthy channels of the present zones 1 to 7, each channel once (R87). -/
def State.cabReadings (s : State) : List Int :=
  ((s.store.live.cabZones.map (zoneChannel s.store.live)).dedup).filterMap s.healthy

/-- The mean of the cab's readings, truncated toward zero, when there is one (R87). -/
def State.cabMean (s : State) : Option Int :=
  match s.cabReadings with
  | [] => none
  | v :: vs => some ((v :: vs).sum.tdiv ((v :: vs).length : Int))

/-- T_zone of a zone served for d, with the substitutes of R87; none is unknown. -/
def State.zoneTemperature (s : State) (z : Zone) (d : Demand) : Option Int :=
  match s.healthy (zoneChannel s.store.live z) with
  | some v => some v
  | none =>
    match s.cabMean with
    | some v => some v
    | none => if d.isComfort then some (d.setpoint s.store.live) else none

/-- T_cold (R88). -/
def State.tCold (s : State) : Option Int := s.healthy 8

/-- T_hot (R88). -/
def State.tHot (s : State) : Option Int := s.healthy 9

/-- The decks, when the spread is usable (R88). -/
def State.decks (s : State) : Option (Int × Int) :=
  match s.tCold, s.tHot with
  | some c, some h => if Config.usableSpread ≤ h - c then some (c, h) else none
  | _, _ => none

/-- The discharge target of a COMFORT or synthetic demand (R89). -/
def comfortTarget (setpoint zone gain : Int) (decks : Option (Int × Int)) : Int :=
  let raw := setpoint + (gain * (setpoint - zone)).tdiv 10
  match decks with
  | some (c, h) => clampInt c h raw
  | none => clampInt (-400) 1200 raw

/-- A temperature that may be unknown, as it is kept (R94). -/
def ZoneTemp.of : Option Int → ZoneTemp
  | some t => .known t
  | none => .unknown

/-- T_d of a zone served for d at zone temperature t (R89, R90, R93). -/
def State.dischargeTarget (s : State) (z : Zone) (d : Demand) (t : Option Int) : ZoneTemp :=
  match d.kind with
  | none => .notSet
  | some .rehab => .of s.tCold
  | some .defrost => .of s.tHot
  | some _ =>
    let l := s.store.live
    .known (comfortTarget (d.setpoint l) (t.getD (d.setpoint l)) l.zones[z.val].gain s.decks)

/-- The blend of a discharge target between usable decks (R91). -/
def comfortBlend (target cold hot : Int) : Nat :=
  (clampInt 0 1000 (roundDivInt (1000 * (target - cold)) (hot - cold))).toNat

/-- The blend target an allocation sets, or none where it is held (R90 to R93). -/
def State.newBlend (s : State) (d : Demand) (td : ZoneTemp) : Option Nat :=
  match d.kind with
  | none => none
  | some .rehab => some 0
  | some .defrost => some 1000
  | some _ =>
    match s.decks, td with
    | some (c, h), .known t => some (comfortBlend t c h)
    | _, _ => none

/-- A zone is heating: T_d known and above a known T_zone (R90). -/
def heating (td : ZoneTemp) (t : Option Int) : Bool :=
  match td, t with
  | .known d, some z => decide (z < d)
  | _, _ => false

/-- A zone is cooling hard: T_d known and below T_zone - 10 (R90). -/
def coolingHard (td : ZoneTemp) (t : Option Int) : Bool :=
  match td, t with
  | .known d, some z => decide (d < z - 10)
  | _, _ => false

/-! ## Stages 1 and 2: available flow and requests (R69 to R74) -/

/-- The supply percentage (R69). -/
def supplyPercent (level : Nat) : Nat :=
  match level with
  | 0 => 100 | 1 => 75 | 2 => 50 | _ => 25

/-- A: the flow an allocation may share; 0 during a blower pause (R69, R70). -/
def State.available (s : State) : Nat :=
  if s.fans.pauseTimer.isSome then 0
  else s.store.live.bmax * supplyPercent s.climate.effectiveSupply / 100

/-- The level of an AUTO demand (R73). -/
def autoLevel (setpoint zone : Int) (m : Nat) : Nat :=
  clampNat (min 2 m) (min 8 m) (2 + (setpoint - zone).natAbs / 15)

/-- The effective level L (R73). -/
def State.effectiveLevel (s : State) (d : Demand) (t : Option Int) : Nat :=
  match d with
  | .none => 0
  | .synthetic => Config.syntheticLevel
  | .record _ r =>
    let level := r.level.getD 0
    if r.kind = .comfort ∧ level = 0 then
      let set := d.setpoint s.store.live
      autoLevel set (t.getD set) (s.config r.station).maxLevel
    else level

/-- The cold-engine limit applies (R74): T_hot below 300 or unknown, a COMFORT or synthetic demand, a heating zone. -/
def State.coldLimit (s : State) (d : Demand) (isHeating : Bool) : Bool :=
  d.isComfort && isHeating &&
  match s.tHot with
  | none => true
  | some h => decide (h < Config.coldEngineBelow)

/-- What the stages 0 and 2 find for one zone. -/
structure ZonePlan where
  demand    : Demand
  tZone     : Option Int
  tDis      : ZoneTemp
  blend     : Option Nat
  heating   : Bool
  cooling   : Bool
  level     : Nat
  used      : Nat
  full      : Nat
  requested : Nat
  deriving DecidableEq, Repr

/-- The outlet damper of a zone is FAULTED. -/
def State.outletFaulted (s : State) (z : Zone) : Bool := s.actFaulted (outletOf z)

/-- The flow per level of a zone, q_z (R74). -/
def Layout.flowPerLevel (l : Layout) (z : Zone) : Nat := l.zones[z.val].flowPerLevel

/-- Stages 0 and 2 for one zone (R71 to R74, R86 to R93). -/
def State.plan (s : State) (z : Zone) : ZonePlan :=
  let d := s.demand z
  let t := s.zoneTemperature z d
  let td := s.dischargeTarget z d t
  let level := s.effectiveLevel d t
  let used := if s.coldLimit d (heating td t) then min level 2 else level
  let q := s.store.live.flowPerLevel z
  { demand := d, tZone := t, tDis := td, blend := s.newBlend d td,
    heating := heating td t, cooling := coolingHard td t,
    level := level, used := used, full := level * q,
    requested := if s.outletFaulted z then 0 else used * q }

/-! ## Stage 3: sharing by class (R75 to R77) -/

/-- The remainder of a request in a shared class (R76). -/
def shareRemainder (R D r : Nat) : Nat := r * R % D

/-- How many requests of the class stand before (z, r) in the order of remainders: a greater remainder, or an equal one
of a lower zone (R77). -/
def aheadOf (R D : Nat) (reqs : List (Zone × Nat)) (z : Zone) (r : Nat) : Nat :=
  reqs.countP (fun p =>
    decide (shareRemainder R D r < shareRemainder R D p.2) ||
    (shareRemainder R D p.2 == shareRemainder R D r && decide (p.1 < z)))

/-- The floor grants of a shared class (R76). -/
def floorGrants (R D : Nat) (reqs : List (Zone × Nat)) : List Nat := reqs.map (fun p => p.2 * R / D)

/-- The leftover of a shared class (R76). -/
def leftover (R D : Nat) (reqs : List (Zone × Nat)) : Nat := R - (floorGrants R D reqs).sum

/-- One class shared out of R: its grants, and what remains (R75 to R77). -/
def shareClass (R : Nat) (reqs : List (Zone × Nat)) : List (Zone × Nat) × Nat :=
  let D := (reqs.map (fun p => p.2)).sum
  if D ≤ R then (reqs, R - D)
  else
    (reqs.map (fun p =>
      (p.1, p.2 * R / D + if aheadOf R D reqs p.1 p.2 < leftover R D reqs then 1 else 0)), 0)

/-- The requests above 0 of one class (R75). -/
def classRequests (plans : List (Zone × ZonePlan)) (c : Nat) : List (Zone × Nat) :=
  plans.filterMap (fun p =>
    match p.2.demand.kind with
    | none => none
    | some k => if k.cls = c ∧ 0 < p.2.requested then some (p.1, p.2.requested) else none)

/-- The grants of every zone that asks for flow (R75). -/
def shareFlow (A : Nat) (plans : List (Zone × ZonePlan)) : List (Zone × Nat) :=
  let one := shareClass A (classRequests plans 1)
  let two := shareClass one.2 (classRequests plans 2)
  let three := shareClass two.2 (classRequests plans 3)
  one.1 ++ two.1 ++ three.1

/-- The grant of a zone, 0 where it asks for nothing (R75). -/
def grantOf (grants : List (Zone × Nat)) (z : Zone) : Nat :=
  match grants.find? (fun p => p.1 == z) with
  | some p => p.2
  | none => 0

/-! ## Stage 4: outputs (R79 to R83, R95 to R99) -/

/-- The outlet target of a grant (R79). -/
def outletFor (g q : Nat) : Nat := if g = 0 then 0 else ceilDiv (1000 * g) (10 * q)

/-- The blower duty (R80). -/
def blowerDuty (B bmax : Nat) : Nat := if B = 0 then 0 else max Config.blowerFloor (ceilDiv (1000 * B) bmax)

/-- A demand contributes to the cooling request (R98). -/
def ZonePlan.contributes (p : ZonePlan) : Bool :=
  match p.demand.kind with
  | some .rehab => true
  | some .defrost => true
  | some .comfort => p.cooling
  | _ => false

/-- A demand contributes to the heat request (R99). -/
def ZonePlan.wantsHeat (p : ZonePlan) : Bool :=
  match p.demand.kind with
  | some .defrost => true
  | some .comfort =>
    match p.blend with
    | some b => decide (0 < b)
    | none => p.heating
  | _ => false

/-- The state of a governing record (R81). -/
def servedState (outletFaulted : Bool) (g full : Nat) : RecState :=
  if outletFaulted then .blocked else if g = full then .active else .limited

/-- A governing record as stage 4 writes it (R81, R95, R96, R97). -/
def State.writeServed (s : State) (z : Zone) (p : ZonePlan) (g : Nat) (r : Record) : Record :=
  let faulted := s.outletFaulted z
  { r with
    state := servedState faulted g p.full
    grantedFlow := some (if faulted then 0 else g)
    grantedLevel := some (if faulted then 0 else g / s.store.live.flowPerLevel z)
    flags := { r.flags with
      noTemp := noTempFlag r.kind (s.actFaulted (blendDoorOf z)) s.decks.isSome
      noCool := noCoolFlag p.contributes s.coolant.clutch
      coldEngine := coldEngineFlag r.kind faulted p.level p.used } }

/-- A governing record written, with its LIMIT notice and then its STATE notice where they are due (R82). -/
def State.putServed (s : State) (n : Slot) (old new : Record) : State :=
  let s1 := s.setSlot n (some new)
  let s2 := if new.grantedLevel = old.grantedLevel then s1 else s1.limitNotice n
  if new.state = old.state then s2 else s2.stateNotice n

/-- A record behind the first: QUEUED, with grant 0 and the three flags cleared, and a STATE notice of a change (R32). -/
def State.putBehind (s : State) (n : Slot) : State :=
  match s.record n with
  | none => s
  | some r =>
    let s1 := s.setSlot n (some { r with
      state := .queued, grantedFlow := some 0, grantedLevel := some 0, flags := r.flags.cleared })
    if r.state = .queued then s1 else s1.stateNotice n

/-- The zone's state after the allocation (R64, R94): a held blend stays. -/
def ZoneState.after (old : ZoneState) (p : ZonePlan) (g q : Nat) : ZoneState :=
  { servedFor := p.demand.servedFor, grantedFlow := g, outletTarget := outletFor g q,
    tZone := .of p.tZone, tDischarge := p.tDis,
    blend := match p.blend with
      | some b => some b
      | none => old.blend }

/-- The computer's state of a zone replaced. -/
def State.setZone (s : State) (z : Zone) (zs : ZoneState) : State :=
  { s with climate := { s.climate with zones := s.climate.zones.set z.val zs } }

/-- Stage 4 for one zone: its state, its governing record, then the records behind it in list order (R34, R81, R82). -/
def State.serveZone (s : State) (z : Zone) (p : ZonePlan) (g : Nat) : State :=
  let s1 := s.setZone z (s.climate.zones[z.val].after p g (s.store.live.flowPerLevel z))
  let s2 := match p.demand with
    | .record n r => s1.putServed n r (s1.writeServed z p g r)
    | _ => s1
  (s.list (zoneTarget z)).tail.foldl State.putBehind s2

/-- The targets handed at the end of an allocation: every present zone's outlet target, then each blend target that was
set, in ascending actuator number (R65, R153). -/
def State.allocationTargets (s : State) (plans : List (Zone × ZonePlan)) : List (ActuatorId × Nat) :=
  plans.map (fun p => (outletOf p.1, s.climate.zones[p.1.val].outletTarget)) ++
  plans.filterMap (fun p => p.2.blend.map (fun b => (blendDoorOf p.1, b)))

/-- One allocation, stages 0 to 4 and the outputs handed (R65). -/
def State.allocate (s : State) : State :=
  let l := s.store.live
  let plans := l.presentZones.map (fun z => (z, s.plan z))
  let A := s.available
  let grants := shareFlow A plans
  let B := (plans.map (fun p => grantOf grants p.1)).sum
  let cooling := plans.any (fun p => p.2.contributes)
  let heat := plans.any (fun p => p.2.wantsHeat)
  let s1 := plans.foldl (fun s p => s.serveZone p.1 p.2 (grantOf grants p.1)) s
  let s2 := { s1 with
    climate := { s1.climate with
      availableFlow := A, blowerFlow := B, blowerDuty := blowerDuty B l.bmax,
      coolingRequest := cooling, heatRequest := heat }
    fans := { s1.fans with blowerDuty := blowerDuty B l.bmax }
    coolant := (s1.coolant.handCooling cooling).handHeat heat }
  s2.handTargets (s1.allocationTargets plans)

/-- The effective supply level recomputed (R68); a change judges the SUPPLY lockout at once (R110, log 15). -/
def State.recomputeSupply (s : State) : State :=
  let level := max s.register.supply s.climate.voltageLevel
  let s' := { s with climate := { s.climate with effectiveSupply := level } }
  if s.climate.effectiveSupply = level then s'
  else { s' with coolant := s.coolant.judge { s.coolant.lockouts with supply := level == 3 } }

/-- ALLOCATION (R63): the period begins again, the effective supply level is recomputed in every mode, and in RUN one
allocation is performed. -/
def execAllocation (s : State) : Host.Outcome State Fault Refusal :=
  let s' := ({ s with climate := { s.climate with allocationTimer := some Config.allocationPeriod } }).recomputeSupply
  .next (if s.modes.mode = .run then s'.allocate else s')

end Sys2Proof.Machine
end

