-- ==== Sys2Proof/Machine/Doors.lean ====
section
/-! DEFINITION. The meanings of the actuator commands (chapter 9): ACTUATOR_STEP, MOVE_COMPLETE, HOMING_STALL,
HOMING_NO_STOP, HOMING_TRAVEL_OVERRUN, STALL; and of the blower's over-current line (R160): OVER_CURRENT_ASSERTION,
PAUSE_TIMER_EXPIRY. An absent actuator is not driven (R149). -/

namespace Sys2Proof.Machine

/-- The drive of a present actuator changed by f, and homing completed where that settles the last one (R184). -/
def State.actEvent (s : State) (a : ActuatorId) (f : ActuatorDrive → ActuatorDrive) : State :=
  if s.actPresent a then ({ s with drive := f s.drive }).homingCheck else s

/-- ACTUATOR_STEP (R155, R150, R152). -/
def execActuatorStep (actuator : Fin 17) (s : State) : Host.Outcome State Fault Refusal :=
  .next (if s.actPresent actuator then
    { s with drive := s.drive.setAct actuator ((s.drive.act actuator).drive s.store.live.travelHigh) }
  else s)

/-- MOVE_COMPLETE (R155, R153, R184). -/
def execMoveComplete (actuator : Fin 17) (s : State) : Host.Outcome State Fault Refusal :=
  .next (s.actEvent actuator (fun d => d.moveComplete actuator))

/-- HOMING_STALL (R152). -/
def execHomingStall (actuator : Fin 17) (s : State) : Host.Outcome State Fault Refusal :=
  .next (s.actEvent actuator (fun d => d.homingStall actuator s.store.live.travelLow s.store.live.travelHigh))

/-- HOMING_NO_STOP (R152). -/
def execHomingNoStop (actuator : Fin 17) (s : State) : Host.Outcome State Fault Refusal :=
  .next (s.actEvent actuator (fun d => d.noStop actuator))

/-- HOMING_TRAVEL_OVERRUN (R152). -/
def execHomingTravelOverrun (actuator : Fin 17) (s : State) : Host.Outcome State Fault Refusal :=
  .next (s.actEvent actuator (fun d => d.travelOverrun actuator s.store.live.travelHigh))

/-- STALL (R156). -/
def execStall (actuator : Fin 17) (s : State) : Host.Outcome State Fault Refusal :=
  .next (s.actEvent actuator (fun d => d.stall actuator))

/-- OVER_CURRENT_ASSERTION (R160): the change of the input from clear to asserted stops the blower for a pause of 10 s, a
running one restarted; the release of the input only changes its level (log 9). -/
def execOverCurrentAssertion (asserted : Bool) (s : State) : Host.Outcome State Fault Refusal :=
  .next { s with
    pins := { s.pins with overCurrent := asserted }
    fans := if asserted && !s.pins.overCurrent then { s.fans with pauseTimer := some Config.pauseTime } else s.fans }

/-- PAUSE_TIMER_EXPIRY (R160): a new pause while the input reads asserted, otherwise the pause ends. -/
def execPauseTimerExpiry (s : State) : Host.Outcome State Fault Refusal :=
  match s.fans.pauseTimer with
  | none => .next s
  | some _ => .next { s with
    fans := { s.fans with pauseTimer := if s.pins.overCurrent then some Config.pauseTime else none } }

/-- The duty the blower runs at: the duty last handed, or 0 during a pause (R159). -/
def FanDrives.blowerRuns (f : FanDrives) : Nat := if f.pauseTimer.isSome then 0 else f.blowerDuty

end Sys2Proof.Machine
end

