-- ==== Sys2Proof/Machine/Duration.lean ====
section
/-! DEFINITION. The duration timer (R19, R20) and the internal PURGE posted anew (R127); the meaning of
DURATION_TIMER_EXPIRY. -/

namespace Sys2Proof.Machine

/-- A record that counts down: timed, and ACTIVE or LIMITED (R19). -/
def Record.counts (r : Record) : Bool := r.kind.timed && r.state.counting

/-- A record after one second (R19). -/
def Record.countDown (r : Record) : Record :=
  if r.counts then { r with value := r.value.map (fun v => v - 1) } else r

/-- A record whose remaining duration has reached 0 by counting down (R20). -/
def Record.ranOut (r : Record) : Bool := r.counts && r.value == some 0

/-- Every record counted down (R19, R20). -/
def State.countDownAll (s : State) : State :=
  { s with table := { s.table with
    slots := Vector.ofFn (fun n : Fin 40 => s.table.slots[n.val].map Record.countDown) } }

/-- The monitor's answer to the expiry of slot 39: while CAB_HIGH holds in HOMING or RUN it posts PURGE anew (R127). -/
def State.repostPurge (s : State) (expired : Bool) : State :=
  if expired && s.air.cabHigh && s.serving then s.postPurge else s

/-- The record of the internal PURGE slot has run out. -/
def State.purgeRanOut (s : State) : Bool :=
  match s.record purgeSlot with
  | none => false
  | some r => r.ranOut

/-- One expiry of the duration timer (R19, R20): the decrements first, then the retirements in ascending slot order, the
last of them slot 39 and its successor. -/
def State.durationExpiry (s : State) : State :=
  let s' := s.countDownAll
  (s'.retireAll .expired Record.ranOut).repostPurge s'.purgeRanOut

/-- DURATION_TIMER_EXPIRY (R19): the period begins again. -/
def execDurationTimerExpiry (s : State) : Host.Outcome State Fault Refusal :=
  .next ({ s with table := { s.table with durationTimer := some Config.durationPeriod } }).durationExpiry

end Sys2Proof.Machine
end

