-- ==== Sys2Proof/Machine/Intake.lean ====
section
/-! DEFINITION. The intake controller (7.3 to 7.5): the door target, the intake records' states, pressurizing and the
filter fan duty, door boost; the meanings of INTAKE_COMPUTATION, DOOR_SWITCH_CHANGE and BOOST_TIMER_EXPIRY. -/

namespace Sys2Proof.Machine

/-- Any door switch reads open (R131). -/
def Pins.anyDoorOpen (p : Pins) : Bool := p.doorsOpen.toList.any (fun b => b)

/-- Door boost is in force: a door open, or the boost timer running (R131). -/
def State.doorBoost (s : State) : Bool := s.pins.anyDoorOpen || s.intake.boostTimer.isSome

/-- The output duty by mode, pressurizing, door boost, stepped duty and supply level (R134). -/
def State.composeDuty (s : State) : Nat :=
  let stepped := s.intake.steppedDuty.getD 0
  if s.modes.mode = .run ∧ s.intake.pressurizing = true then
    let duty := if s.doorBoost then 1000 else stepped
    if s.climate.effectiveSupply = 3 then min duty Config.fanCap else duty
  else 0

/-- The output duty composed and handed to the filter fan drive (R134, R161). -/
def State.handFan (s : State) : State :=
  { s with
    intake := { s.intake with outputDuty := s.composeDuty }
    fans := { s.fans with fanDuty := s.composeDuty } }

/-- The fan handed at a beginning or end of door boost, while pressurizing in RUN (R134). -/
def State.boostHand (s : State) : State :=
  if s.modes.mode = .run ∧ s.intake.pressurizing = true then s.handFan else s

/-- What a governing intake record asks of the door, before the contamination bound (R129). -/
def doorRequest (l : Layout) : Option Record → Nat
  | none => l.defaultFresh
  | some r =>
    match r.kind with
    | .seal => 0
    | .purge => 1000
    | _ => r.value.getD 0

/-- The door target bounded by the contamination state (R129). -/
def doorBound (c : Contamination) (t : Nat) : Nat :=
  match c with
  | .clear => t
  | .suspect => min t Config.suspectCap
  | .contaminated => 0

/-- The SUSPECT cap lowers the target (R129, R130). -/
def capped (c : Contamination) (t : Nat) : Bool := c == .suspect && decide (Config.suspectCap < t)

/-- The governing intake record's state (R130). -/
def intakeState (doorFaulted isCapped : Bool) : RecState :=
  if doorFaulted then .blocked else if isCapped then .limited else .active

/-- A record's state set, with the STATE notice of a change (R33, R34). -/
def State.setRecState (s : State) (n : Slot) (st : RecState) : State :=
  match s.record n with
  | none => s
  | some r => if r.state = st then s else (s.setSlot n (some { r with state := st })).stateNotice n

/-- The intake list judged: the first record's state, then every other QUEUED, in list order (R33, R130). -/
def State.judgeIntake (s : State) (st : RecState) : State :=
  match s.list intakeTarget with
  | [] => s
  | n :: rest => rest.foldl (fun s m => s.setRecState m .queued) (s.setRecState n st)

/-- The stepped duty of a computation that pressurizes (R132, R133). -/
def steppedDuty (old : Option Nat) (entry boost : Bool) (dp : Option Int) (target : Nat) : Nat :=
  match dp with
  | none => Config.fallbackDuty
  | some p =>
    if entry then Config.entryDuty
    else
      let d := old.getD Config.entryDuty
      if boost then d
      else if p < (target : Int) - 10 then clampNat 200 1000 (d + 50)
      else if (target : Int) + 10 < p then clampNat 200 1000 (d - 50)
      else clampNat 200 1000 d

/-- Pressurizing and the stepped duty after a computation: while a SEAL governs, in any state (R132). -/
def State.pressurize (s : State) (sealed : Bool) : IntakeController :=
  if sealed then
    { s.intake with
      pressurizing := true
      steppedDuty := some (steppedDuty s.intake.steppedDuty (!s.intake.pressurizing) s.doorBoost (s.healthy 14)
        s.store.live.dpTarget) }
  else { s.intake with pressurizing := false, steppedDuty := none }

/-- One intake computation (R129 to R134). -/
def State.computeIntake (s : State) : State :=
  let gov := (s.governing intakeTarget).map (fun p => p.2)
  let request := doorRequest s.store.live gov
  let c := s.air.contamination
  let target := doorBound c request
  let sealed := gov.any (fun r => r.kind == .seal)
  let s1 := s.judgeIntake (intakeState (s.actFaulted intakeDoor) (capped c request))
  let s2 := { s1 with intake := { s.pressurize sealed with doorTarget := target } }
  (s2.handTarget intakeDoor target).handFan

/-- INTAKE_COMPUTATION (R128): the period begins again; the computation is made in RUN alone. -/
def execIntakeComputation (s : State) : Host.Outcome State Fault Refusal :=
  let s' := { s with intake := { s.intake with intakeTimer := some Config.intakePeriod } }
  .next (if s.modes.mode = .run then s'.computeIntake else s')

/-- A door switch changes (R131, R134): an opening stops the boost timer and, where it starts boost, hands the fan;
the closing of the last open door starts the boost timer. -/
def State.doorChange (s : State) (door : Fin 6) (isOpen : Bool) : State :=
  let s' := { s with pins := { s.pins with doorsOpen := s.pins.doorsOpen.set door.val isOpen } }
  if isOpen then
    let s'' := { s' with intake := { s'.intake with boostTimer := none } }
    if s.doorBoost then s'' else s''.boostHand
  else if s'.pins.anyDoorOpen then s'
  else { s' with intake := { s'.intake with boostTimer := some Config.boostTime } }

/-- DOOR_SWITCH_CHANGE (R131); a level the switch already has is no change (log 10). -/
def execDoorSwitchChange (door : Fin 6) (isOpen : Bool) (s : State) : Host.Outcome State Fault Refusal :=
  if s.pins.doorsOpen[door.val] = isOpen then .next s else .next (s.doorChange door isOpen)

/-- BOOST_TIMER_EXPIRY (R131, R134): the timer stops, boost ends, and the stepped duty is handed. -/
def execBoostTimerExpiry (s : State) : Host.Outcome State Fault Refusal :=
  match s.intake.boostTimer with
  | none => .next s
  | some _ => .next { s with intake := { s.intake with boostTimer := none } }.boostHand

end Sys2Proof.Machine
end

