-- ==== Sys2Proof/Machine/Resets.lean ====
section
/-! DEFINITION. The load of the layout (R178), the resets (R24, R44, R158, R182) and the start-up (R179); the meanings of
POWER_ON_RESET and STORE_WRITE_END. -/

namespace Sys2Proof.Machine

/-- The live layout and the self-check code a load gives (R178). -/
def NvStore.load : NvStore → Layout × SelfCheck
  | .blank => (Layout.builtIn, .layoutDefault)
  | .written image crc =>
    if image.crc = crc then
      if image.repair = image then (image, .pass) else (image.repair, .itemsDefaulted)
    else (Layout.builtIn, .layoutDefault)

/-- An image whose CRC does not match: what the store holds after a failed or cut write (R181, log 13). -/
def NvStore.unmatched (image : Layout) : NvStore := .written image (image.crc ^^^ 0xFFFF#16)

/-- What the store holds when a reset comes: a write in flight has been cut (R181). -/
def LayoutStore.nvAtReset (st : LayoutStore) : NvStore :=
  if st.result = .writing then .unmatched st.image else st.nv

/-- Every volatile state at its value after reset, with the live layout loaded from the store (R178, R182); the input
pins and the queue of commands are the outside's. The mode is START and the link OFFLINE. -/
def State.clearVolatile (s : State) : State :=
  let nv := s.store.nvAtReset
  let live := nv.load.1
  { table := {}
    register := .afterReset live
    climate := {}
    coolant := .afterReset s.pins
    air := .afterReset live
    intake := {}
    scanner := .afterReset live
    drive := .afterReset
    fans := .afterReset s.pins
    link := {}
    store := { nv := nv, live := live, image := live, selfCheck := nv.load.2 }
    modes := .afterReset s.pins
    pins := s.pins
    pending := s.pending }

/-- Evaluation starts at the end of the reset when both gas channels are disabled (R120). -/
def State.evaluateAtReset (s : State) : State := if s.evaluationReady then s.startEvaluation else s

/-- The link brought ONLINE (R179). -/
def State.bringOnline (s : State) : State := { s with link := { s.link with state := .online } }

/-- Start-up after the load: with a good table memory the link is ONLINE and the mode enters HOMING; otherwise the code
is TABLE_MEMORY, the link is ONLINE and the mode stays START (R179). -/
def State.startUp (s : State) (memoryGood : Bool) : State :=
  if memoryGood then s.bringOnline.enterHoming
  else { s with store := { s.store with selfCheck := .tableMemory } }.bringOnline

/-- A restart (R182): every volatile state cleared, the layout loaded, the table memory check skipped. -/
def State.restartDevice (s : State) : State := s.clearVolatile.evaluateAtReset.startUp true

/-- POWER_ON_RESET (R182, R178, R179). -/
def execPowerOnReset (memoryGood : Bool) (s : State) : Host.Outcome State Fault Refusal :=
  .next (s.clearVolatile.evaluateAtReset.startUp memoryGood)

/-- The write ends (R181): verified, the store holds the pending image with its CRC and the device restarts; failed,
the store result is FAILED and the store holds an image whose CRC does not match. -/
def State.writeEnd (s : State) (verified : Bool) : State :=
  if verified then
    { s with store := { s.store with nv := .written s.store.image s.store.image.crc, result := .none } }.restartDevice
  else { s with store := { s.store with nv := .unmatched s.store.image, result := .failed } }

/-- STORE_WRITE_END (R181); without a write in flight there is none to end. -/
def execStoreWriteEnd (verified : Bool) (s : State) : Host.Outcome State Fault Refusal :=
  .next (if s.store.result = .writing then s.writeEnd verified else s)

end Sys2Proof.Machine
end

