-- ==== Sys2Proof/Machine/Taking.lean ====
section
/-! DEFINITION. Taking a request (R166): the room, the counted frame (R47), the answer composed and placed (R167, R59),
and the checks that the requests share (R46). -/

namespace Sys2Proof.Machine

/-- One frame's part of an answer: bits 7 to 4 of byte 1, and bytes 2 to 7 (R172, R175). -/
structure Part where
  hi   : Nat
  body : Vector Byte 6
  deriving DecidableEq, Repr

/-- The answer to a request: its status, and its frames in order (R167). -/
structure Answer where
  status : Status
  parts  : List Part
  deriving DecidableEq, Repr

/-- Bytes 2 to 7 all 0 (R168, R175). -/
def noBytes : Vector Byte 6 := #v[0, 0, 0, 0, 0, 0]

/-- An answer of one frame. -/
def Answer.one (st : Status) (hi : Nat) (body : Vector Byte 6) : Answer := { status := st, parts := [⟨hi, body⟩] }

/-- An answer of one frame with no values (R168). -/
def Answer.plain (st : Status) : Answer := .one st 0 noBytes

/-- The refusal of a request whose answer carries a record: the empty record (R168, R174). -/
def Answer.noRecord (st : Status) : Answer := .one st 0 #v[0xFF, 0, 0, 0, 0, 0]

/-- The answer that carries a record (R14, R16, R18, R174). -/
def Answer.record (st : Status) (n : Slot) (r : Record) : Answer :=
  .one st r.flags.code
    #v[BitVec.ofNat 8 n.val, nibbles r.target.val r.kind.code, nibbles r.state.code r.station.val,
       nibbles (r.level.getD 0) (r.grantedLevel.getD 0), hiByte (word (r.value.getD 0)), loByte (word (r.value.getD 0))]

/-- The refusal of a LIST: the final mark, part index 0 and six empty places (R175). -/
def Answer.noList (st : Status) : Answer := .one st 8 #v[0xFF, 0xFF, 0xFF, 0xFF, 0xFF, 0xFF]

/-- The full lapse interval of a station in milliseconds, none for an interval of 0 (R48). -/
def State.lapseInterval (s : State) (st : Station) : Option Nat :=
  let n := (s.config st).lapseInterval
  if n = 0 then none else some (1000 * n)

/-- A counted frame: the station is PRESENT and its lapse timer restarts at the full interval (R47, R48). -/
def State.countFrame (s : State) (st : Station) : State :=
  let e := s.entry st
  s.setEntry st { e with
    presence := .present
    lapse := match s.lapseInterval st with
      | none => .stopped
      | some ms => .running ms }

/-- Byte 0 of an answer: the answer mark, the notice-overrun mark, the low six bits of the received byte 0 (R167,
R172). -/
def answerByte0 (mark : Bool) (f : RxFrame) : Byte := BitVec.ofNat 8 (128 + 64 * bit mark + f.num 0 % 64)

/-- One answer frame (R172, R175). -/
def answerFrame (first : Byte) (st : Status) (p : Part) : Vector Byte 8 :=
  #v[first, nibbles p.hi st.code, p.body[0], p.body[1], p.body[2], p.body[3], p.body[4], p.body[5]]

/-- The notice-overrun mark of the answer being composed: the flag of a defined station (R59, R43). -/
def State.answerMark (s : State) (st : Station) : Bool := s.defined st && (s.entry st).overrun

/-- The frames of an answer (R167). -/
def State.answerFrames (s : State) (f : RxFrame) (a : Answer) : List TxFrame :=
  a.parts.map (fun p => { station := f.station, data := answerFrame (answerByte0 (s.answerMark f.station) f) a.status p })

/-- The answer composed and placed at the tail of the outgoing queue in its reserved room (R166, R167); a set
notice-overrun flag of a defined station is reported in every frame and cleared (R59, R43). -/
def State.placeAnswer (s : State) (f : RxFrame) (a : Answer) : State :=
  let s' := if s.answerMark f.station then s.setEntry f.station { s.entry f.station with overrun := false } else s
  { s' with link := { s'.link with tx := s'.link.tx ++ s.answerFrames f a, reserved := 0 } }

/-- The link can take the head frame: ONLINE, no restart awaited (R182), and room for `room` frames (R166). -/
def State.canTake (s : State) (room : Nat) : Bool :=
  s.link.state == .online && !s.link.restartAwaited &&
  decide (s.link.tx.length + s.link.reserved + room ≤ Config.txCapacity)

/-- The head frame removed, its answer's room reserved, and the frame counted when its length is 8 and its station
defined (R166, steps 1 and 2). -/
def State.beginTake (s : State) (f : RxFrame) (rest : List RxFrame) (room : Nat) : State :=
  let s' := { s with link := { s.link with rx := rest, reserved := room } }
  if f.data.length = 8 ∧ s.defined f.station = true then s'.countFrame f.station else s'

/-- The taking of the head frame by a row that accepts it (R166): `room` frames are reserved, `serve` judges the request
and carries it out. Where the head is not of this row, or the link cannot take it, the frame waits and nothing
changes (R166, log 2). -/
def State.take (s : State) (accepts : RxFrame → Bool) (room : RxFrame → Nat)
    (serve : State → RxFrame → State × Answer) : State :=
  match s.link.rx with
  | [] => s
  | f :: rest =>
    if accepts f = true ∧ s.canTake (room f) = true then
      let r := serve (s.beginTake f rest (room f)) f
      r.1.placeAnswer f r.2
    else s

/-- One frame of room: every request but an accepted LIST (R166). -/
def oneFrame (_ : RxFrame) : Nat := 1

/-! ## Shared checks -/

/-- The mode check and the definition check of most requests (R46). -/
def State.gate (s : State) (f : RxFrame) : Option Status :=
  if s.modes.mode = .start then some .notNow
  else if s.defined f.station then none else some .notPermitted

/-- The checks of a request that needs the SERVICE right (R46). -/
def State.serviceGate (s : State) (f : RxFrame) : Option Status :=
  if s.modes.mode = .start then some .notNow
  else if s.defined f.station = true ∧ (s.config f.station).serviceRight ≠ 0 then none else some .notPermitted

/-- A layout store is being written (R180, R181, R182). -/
def State.writing (s : State) : Bool := s.store.result == .writing

end Sys2Proof.Machine
end

