-- ==== Sys2Proof/Machine/LinkEvents.lean ====
section
/-! DEFINITION. The events of the cab network (chapter 10) and of the lapse timers (chapter 3): FRAME_RECEIVED,
TRANSMISSION_COMPLETE, BUS_OFF, BUS_OFF_RECOVERY, LAPSE. -/

namespace Sys2Proof.Machine

/-! ## FRAME_RECEIVED -/

/-- The station of a request frame: a base-format data frame on identifier 0x240 + s (R163). -/
def requestStation (f : CanFrame) : Option Station :=
  if f.extended = false ∧ f.remote = false ∧ 0x240 ≤ f.identifier then
    if h : f.identifier - 0x240 < 16 then some ⟨f.identifier - 0x240, h⟩ else none
  else none

/-- A frame at the port (R163 to R165): ignored while OFFLINE or when it is no request frame; otherwise it joins the
tail of the receive FIFO, or is discarded with the link overrun flag set when the FIFO is full. -/
def State.receive (s : State) (f : CanFrame) : State :=
  if s.link.state = .offline then s
  else match requestStation f with
    | none => s
    | some st =>
      if s.link.rx.length < Config.rxCapacity then
        { s with link := { s.link with rx := s.link.rx ++ [{ station := st, data := f.data }] } }
      else { s with link := { s.link with overrun := true } }

/-- FRAME_RECEIVED (R165). A frame of more than 8 bytes is no CAN frame (R163, log 22). -/
def execFrameReceived (frame : CanFrame) (s : State) : Host.Outcome State Fault Refusal :=
  if 8 < frame.data.length then .fault .oversizeFrame else .next (s.receive frame)

/-! ## The outgoing queue -/

/-- A notice: byte 0 without the answer mark (R174). -/
def TxFrame.isNotice (f : TxFrame) : Bool := !f.data[0].getLsbD 7

/-- An answer frame carrying the notice-overrun mark (R172). -/
def TxFrame.isMarked (f : TxFrame) : Bool := f.data[0].getLsbD 7 && f.data[0].getLsbD 6

/-- The answer frame of an accepted request with code c: status OK (R172). -/
def TxFrame.answers (f : TxFrame) (c : Nat) : Bool :=
  f.data[0].getLsbD 7 && f.data[0].toNat % 64 == c && f.data[1].toNat % 16 == 0

/-- A PLANT_STATUS answer carrying the link overrun flag set (R165, R175). -/
def TxFrame.reportsOverrun (f : TxFrame) : Bool := f.answers 9 && f.data[2].getLsbD 2

/-- The answer of an accepted RESTART (R167, R182). -/
def TxFrame.isRestartAnswer (f : TxFrame) : Bool := f.answers 14

/-- The CAN frame in which an answer or a notice is sent: a base-format data frame of length 8 on 0x2C0 + s (R163). -/
def TxFrame.onBus (f : TxFrame) : CanFrame :=
  { identifier := 0x2C0 + f.station.val, extended := false, remote := false, data := f.data.toList }

/-- The frame that the port transmits: the head of the outgoing queue while ONLINE, nothing while OFFLINE (R163, R164,
R169). -/
def State.transmitting (s : State) : Option CanFrame :=
  match s.link.state with
  | .online => s.link.tx.head?.map TxFrame.onBus
  | .offline => none

/-- The head frame has been transmitted (R169); after the answer of an accepted RESTART the device restarts (R182). -/
def State.transmitted (s : State) : State :=
  match s.link.state, s.link.tx with
  | .online, f :: rest =>
    let s' := { s with link := { s.link with tx := rest } }
    if s.link.restartAwaited = true ∧ f.isRestartAnswer = true then s'.restartDevice else s'
  | _, _ => s

/-- TRANSMISSION_COMPLETE (R169). -/
def execTransmissionComplete (s : State) : Host.Outcome State Fault Refusal :=
  .next s.transmitted

/-! ## Bus-off -/

/-- A running lapse timer is held with its remaining time (R50). -/
def LapseTimer.hold : LapseTimer → LapseTimer
  | .running ms => .held ms
  | .held ms => .held ms
  | .stopped => .stopped

/-- The stations whose notice-overrun flag is set again when the outgoing queue is discarded: those with a notice in it,
or with an answer frame carrying the mark (R58, R170). -/
def lostReport (tx : List TxFrame) (st : Station) : Bool :=
  tx.any (fun f => f.station == st && (f.isNotice || f.isMarked))

/-- Every station's entry replaced by a function of it. -/
def State.mapEntries (s : State) (g : Station → StationEntry → StationEntry) : State :=
  { s with register := { s.register with
    entries := Vector.ofFn (fun i : Fin 16 => g i s.register.entries[i.val]) } }

/-- The entry into bus-off of an ONLINE link (R170): OFFLINE, both queues discarded, the flags set again, the lapse
timers held. -/
def State.goOffline (s : State) : State :=
  let tx := s.link.tx
  let s' := s.mapEntries (fun st e =>
    { e with overrun := e.overrun || lostReport tx st, lapse := e.lapse.hold })
  { s' with link := { s'.link with
    state := .offline, busOff := true, rx := [], tx := [], reserved := 0
    overrun := s.link.overrun || tx.any TxFrame.reportsOverrun } }

/-- BUS_OFF (R170); a discarded answer of an accepted RESTART restarts the device (R182). -/
def execBusOff (s : State) : Host.Outcome State Fault Refusal :=
  if s.link.state = .offline then .next s
  else if s.link.restartAwaited = true ∧ s.link.tx.any TxFrame.isRestartAnswer = true then
    .next s.goOffline.restartDevice
  else .next s.goOffline

/-- A held lapse timer restarts at the full interval of its station (R50). -/
def State.resumeLapse (s : State) (st : Station) (t : LapseTimer) : LapseTimer :=
  match t with
  | .held _ =>
    match s.lapseInterval st with
    | none => .stopped
    | some ms => .running ms
  | .running ms => .running ms
  | .stopped => .stopped

/-- BUS_OFF_RECOVERY (R170, R50): from bus-off the link returns to ONLINE; out of bus-off there is no recovery
(log 19). -/
def execBusOffRecovery (s : State) : Host.Outcome State Fault Refusal :=
  if s.link.busOff then
    let s' := s.mapEntries (fun st e => { e with lapse := s.resumeLapse st e.lapse })
    .next { s' with link := { s'.link with state := .online, busOff := false } }
  else .next s

/-! ## LAPSE -/

/-- Every lock a station holds freed (R49, R54). -/
def State.freeLocksOf (s : State) (st : Station) : State :=
  { s with register := { s.register with
    locks := Vector.ofFn (fun t : Fin 9 => if s.register.locks[t.val] = some st then none else s.register.locks[t.val]) } }

/-- The expiry of a running lapse timer (R49): the station's records are retired with LAPSED, its locks freed, and it is
SILENT with its timer stopped. -/
def State.lapse (s : State) (st : Station) : State :=
  match (s.entry st).lapse with
  | .running _ =>
    let s' := (s.retireAll .lapsed (fun r => r.station == st)).freeLocksOf st
    s'.setEntry st { s'.entry st with presence := .silent, lapse := .stopped }
  | .held _ => s
  | .stopped => s

/-- LAPSE (R49); a stopped or held timer does not expire (R48, R50). -/
def execLapse (station : Fin 16) (s : State) : Host.Outcome State Fault Refusal :=
  .next (s.lapse station)

end Sys2Proof.Machine
end

