-- ==== Sys2Proof/Machine/Requests.lean ====
section
/-! DEFINITION. The requests on the demand table and the station register (chapters 1 to 3): POST, WITHDRAW, LOOKUP,
LIST, REFRESH, LOCK, UNLOCK, SUPPLY, and the frame that is no request (R166). -/

namespace Sys2Proof.Machine

/-! ## POST -/

/-- Checks 1 to 7 of a POST (R8): the status of the first that fails, or the target and kind. -/
def State.postChecks (s : State) (f : RxFrame) : Except Status (Target × Kind) :=
  let st := f.station
  if s.modes.mode = .start ∨ s.modes.mode = .parked then .error .notNow
  else if s.defined st = false then .error .notPermitted
  else match s.store.live.presentTarget (f.high 1) with
    | none => .error .badTarget
    | some t =>
      match Kind.ofCode (f.low 1) with
      | none => .error .badKind
      | some k =>
        if k.allowedOn t = false then .error .badKind
        else if (s.config st).targetRights.testBit t.val = false then .error .notPermitted
        else if (s.config st).kindRights.testBit (k.code - 1) = false then .error .notPermitted
        else match s.lockOf t with
          | some h => if h = st then .ok (t, k) else .error .locked
          | none => .ok (t, k)

/-- The fields a POST stores for kind k (R12). -/
def State.postFields (s : State) (f : RxFrame) (k : Kind) : PostFields :=
  clampPost k (s.config f.station).maxLevel (f.num 2) (f.num16 3)

/-- A record as an amend leaves it (R10, R13). -/
def Record.amended (r : Record) (p : PostFields) : Record :=
  { r with level := p.level, value := p.value, flags := { r.flags with clamped := p.clamped } }

/-- A new record of a post (R11): PENDING, the grant 0 on a zone and absent on the intake. -/
def Record.posted (t : Target) (st : Station) (k : Kind) (p : PostFields) : Record :=
  let grant := if t = intakeTarget then none else some 0
  { target := t, station := st, kind := k, postSeq := 0, level := p.level, value := p.value,
    grantedFlow := grant, grantedLevel := grant, flags := { clamped := p.clamped } }

/-- The status of an accepted POST (R13). -/
def PostFields.status (p : PostFields) : Status := if p.clamped then .clamped else .ok

/-- The answer with the record of a slot as it stands (R14, R18). -/
def State.recordAnswer (s : State) (st : Status) (n : Slot) : Answer :=
  match s.record n with
  | none => .noRecord .notFound
  | some r => .record st n r

/-- POST judged and carried out (R8 to R14). -/
def State.servePost (s : State) (f : RxFrame) : State × Answer :=
  match s.postChecks f with
  | .error st => (s, .noRecord st)
  | .ok (t, k) =>
    let p := s.postFields f k
    match s.findKey t f.station k with
    | some n =>
      match s.record n with
      | none => (s, .noRecord .notFound)
      | some r =>
        let s' := s.setSlot n (some (r.amended p))
        (s', s'.recordAnswer p.status n)
    | none =>
      if (s.entry f.station).quota = 0 then (s, .noRecord .noQuota)
      else match s.freeExternal with
        | none => (s, .noRecord .tableFull)
        | some n =>
          let s' := s.create n (Record.posted t f.station k p)
          (s', s'.recordAnswer p.status n)

/-- POST (R8). -/
def execPost (s : State) : Host.Outcome State Fault Refusal :=
  .next (s.take (fun f => f.isRequest 1) oneFrame State.servePost)

/-! ## WITHDRAW and LOOKUP -/

/-- The form byte names the form; a byte that names neither is taken by either row (R168, log 11). -/
def RxFrame.formIs (f : RxFrame) (form : Nat) : Bool := f.num 1 == form || decide (1 < f.num 1)

/-- The slot of station st's record whose key the byte i names: target in the high four bits, kind in the low (R16). -/
def State.keyNamed (s : State) (f : RxFrame) (i : Nat) : Option Slot :=
  match targetOf (f.high i), Kind.ofCode (f.low i) with
  | some t, some k => s.findKey t f.station k
  | _, _ => none

/-- A record retired with WITHDRAWN, answered as it stood (R16, R21). -/
def State.withdraw (s : State) (n : Slot) : State × Answer := (s.retire n, s.recordAnswer .ok n)

/-- WITHDRAW judged and carried out, by key (R16). -/
def State.serveWithdrawKey (s : State) (f : RxFrame) : State × Answer :=
  match s.gate f with
  | some st => (s, .noRecord st)
  | none =>
    if 1 < f.num 1 then (s, .noRecord .badValue)
    else match s.keyNamed f 2 with
      | none => (s, .noRecord .notFound)
      | some n => s.withdraw n

/-- WITHDRAW judged and carried out, by slot (R17). -/
def State.serveWithdrawSlot (s : State) (f : RxFrame) : State × Answer :=
  match s.gate f with
  | some st => (s, .noRecord st)
  | none =>
    if 1 < f.num 1 then (s, .noRecord .badValue)
    else match slotOf (f.num 2) with
      | none => (s, .noRecord .notFound)
      | some n =>
        match s.record n with
        | none => (s, .noRecord .notFound)
        | some r => if r.station = f.station then s.withdraw n else (s, .noRecord .notOwner)

/-- LOOKUP judged, by key (R18). -/
def State.serveLookupKey (s : State) (f : RxFrame) : State × Answer :=
  match s.gate f with
  | some st => (s, .noRecord st)
  | none =>
    if 1 < f.num 1 then (s, .noRecord .badValue)
    else match s.keyNamed f 2 with
      | none => (s, .noRecord .notFound)
      | some n => (s, s.recordAnswer .ok n)

/-- LOOKUP judged, by slot (R18). -/
def State.serveLookupSlot (s : State) (f : RxFrame) : State × Answer :=
  match s.gate f with
  | some st => (s, .noRecord st)
  | none =>
    if 1 < f.num 1 then (s, .noRecord .badValue)
    else match slotOf (f.num 2) with
      | none => (s, .noRecord .notFound)
      | some n => (s, s.recordAnswer .ok n)

/-- WITHDRAW_BY_KEY (R16). -/
def execWithdrawByKey (s : State) : Host.Outcome State Fault Refusal :=
  .next (s.take (fun f => f.isRequest 2 && f.formIs 0) oneFrame State.serveWithdrawKey)

/-- WITHDRAW_BY_SLOT (R17). -/
def execWithdrawBySlot (s : State) : Host.Outcome State Fault Refusal :=
  .next (s.take (fun f => f.isRequest 2 && f.formIs 1) oneFrame State.serveWithdrawSlot)

/-- LOOKUP_BY_KEY (R18). -/
def execLookupByKey (s : State) : Host.Outcome State Fault Refusal :=
  .next (s.take (fun f => f.isRequest 3 && f.formIs 0) oneFrame State.serveLookupKey)

/-- LOOKUP_BY_SLOT (R18). -/
def execLookupBySlot (s : State) : Host.Outcome State Fault Refusal :=
  .next (s.take (fun f => f.isRequest 3 && f.formIs 1) oneFrame State.serveLookupSlot)

/-! ## LIST -/

/-- The checks of a LIST (R38): its refusal, or its target. -/
def State.listChecks (s : State) (f : RxFrame) : Except Status Target :=
  match s.gate f with
  | some st => .error st
  | none =>
    match s.store.live.presentTarget (f.num 1) with
    | none => .error .badTarget
    | some t => .ok t

/-- How many frames the LIST of n entries takes (R39, R166). -/
def listFrames (n : Nat) : Nat := max 1 (ceilDiv n 6)

/-- The place i of part p of a list: its slot, or 0xFF where the list has ended (R175). -/
def listPlace (l : List Slot) (p i : Nat) : Byte :=
  match l[6 * p + i]? with
  | some n => BitVec.ofNat 8 n.val
  | none => 0xFF

/-- Part p of the k parts of a list's answer: the final mark in the last, the part index, six places (R39, R175). -/
def listPart (l : List Slot) (k p : Nat) : Part :=
  { hi := (if p + 1 = k then 8 else 0) + p
    body := #v[listPlace l p 0, listPlace l p 1, listPlace l p 2, listPlace l p 3, listPlace l p 4, listPlace l p 5] }

/-- The answer that carries a list (R39). -/
def listAnswer (l : List Slot) : Answer :=
  { status := .ok, parts := (List.range (listFrames l.length)).map (listPart l (listFrames l.length)) }

/-- The room a LIST needs (R166). -/
def State.listRoom (s : State) (f : RxFrame) : Nat :=
  match s.listChecks f with
  | .error _ => 1
  | .ok t => listFrames (s.list t).length

/-- LIST judged (R38, R39). -/
def State.serveList (s : State) (f : RxFrame) : State × Answer :=
  match s.listChecks f with
  | .error st => (s, .noList st)
  | .ok t => (s, listAnswer (s.list t))

/-- LIST (R38). -/
def execList (s : State) : Host.Outcome State Fault Refusal :=
  .next (s.take (fun f => f.isRequest 4) s.listRoom State.serveList)

/-! ## REFRESH -/

/-- The mask after a REFRESH with value v (R57). -/
def newMask (old : NoticeMask) (v : Byte) : NoticeMask := if v = 0xFF then old else v.setWidth 4

/-- REFRESH judged and carried out (R57). -/
def State.serveRefresh (s : State) (f : RxFrame) : State × Answer :=
  match s.gate f with
  | some st => (s, .plain st)
  | none =>
    let e := s.entry f.station
    let m := newMask e.mask (f.byte 1)
    (s.setEntry f.station { e with mask := m }, .one .ok 0 #v[m.setWidth 8, 0, 0, 0, 0, 0])

/-- REFRESH (R57). -/
def execRefresh (s : State) : Host.Outcome State Fault Refusal :=
  .next (s.take (fun f => f.isRequest 5) oneFrame State.serveRefresh)

/-! ## LOCK and UNLOCK -/

/-- The answer to an accepted LOCK or UNLOCK: the target named (R175). -/
def lockAnswer (t : Target) : Answer := .one .ok 0 #v[BitVec.ofNat 8 t.val, 0, 0, 0, 0, 0]

/-- LOCK judged and carried out (R51). -/
def State.serveLock (s : State) (f : RxFrame) : State × Answer :=
  if s.modes.mode = .parked then (s, .plain .notNow)
  else match s.gate f with
    | some st => (s, .plain st)
    | none =>
      match s.store.live.presentTarget (f.num 1) with
      | none => (s, .plain .badTarget)
      | some t =>
        let c := s.config f.station
        if c.lockRight = 0 ∨ c.targetRights.testBit t.val = false then (s, .plain .notPermitted)
        else match s.lockOf t with
          | some h => if h = f.station then (s, lockAnswer t) else (s, .plain .locked)
          | none => (s.setLock t (some f.station), lockAnswer t)

/-- LOCK (R51). -/
def execLock (s : State) : Host.Outcome State Fault Refusal :=
  .next (s.take (fun f => f.isRequest 6) oneFrame State.serveLock)

/-- UNLOCK judged and carried out (R53). -/
def State.serveUnlock (s : State) (f : RxFrame) : State × Answer :=
  match s.gate f with
  | some st => (s, .plain st)
  | none =>
    match s.store.live.presentTarget (f.num 1) with
    | none => (s, .plain .badTarget)
    | some t =>
      match s.lockOf t with
      | none => (s, .plain .notFound)
      | some h =>
        if h = f.station ∨ (s.config f.station).serviceRight ≠ 0 then (s.setLock t none, lockAnswer t)
        else (s, .plain .notPermitted)

/-- UNLOCK (R53). -/
def execUnlock (s : State) : Host.Outcome State Fault Refusal :=
  .next (s.take (fun f => f.isRequest 7) oneFrame State.serveUnlock)

/-! ## SUPPLY -/

/-- SUPPLY judged and carried out (R60). -/
def State.serveSupply (s : State) (f : RxFrame) : State × Answer :=
  match s.gate f with
  | some st => (s, .plain st)
  | none =>
    if (s.config f.station).supplyRight = 0 then (s, .plain .notPermitted)
    else
      let level := min (f.num 1) 3
      ({ s with register := { s.register with supply := level } },
       .one (if 3 < f.num 1 then .clamped else .ok) 0 #v[BitVec.ofNat 8 level, 0, 0, 0, 0, 0])

/-- SUPPLY (R60). -/
def execSupply (s : State) : Host.Outcome State Fault Refusal :=
  .next (s.take (fun f => f.isRequest 10) oneFrame State.serveSupply)

/-! ## A frame that is no request -/

/-- A frame of another length than 8, or whose byte 0 names no request (R166). -/
def State.serveBad (s : State) (_f : RxFrame) : State × Answer := (s, .plain .badRequest)

/-- BAD_REQUEST (R166). -/
def execBadRequest (s : State) : Host.Outcome State Fault Refusal :=
  .next (s.take RxFrame.isBad oneFrame State.serveBad)

end Sys2Proof.Machine
end

