-- ==== Sys2Proof/Machine/ServiceRequests.lean ====
section
/-! DEFINITION. The service requests LAYOUT_READ, LAYOUT_WRITE, LAYOUT_STORE and RESTART (R180 to R182). -/

namespace Sys2Proof.Machine

/-- The answer that carries an item's number and value (R175). -/
def itemAnswer (number : Nat) (v : Int) : Answer :=
  .one .ok 0 #v[hiByte (word number), loByte (word number), hiByte (wordInt v), loByte (wordInt v), 0, 0]

/-- LAYOUT_READ judged (R180): the value in the live layout. -/
def State.serveLayoutRead (s : State) (f : RxFrame) : State × Answer :=
  match s.serviceGate f with
  | some st => (s, .plain st)
  | none =>
    match Item.ofNumber (f.num16 1) with
    | none => (s, .plain .badValue)
    | some i => (s, itemAnswer (f.num16 1) (s.store.live.get i))

/-- LAYOUT_READ (R180). -/
def execLayoutRead (s : State) : Host.Outcome State Fault Refusal :=
  .next (s.take (fun f => f.isRequest 11) oneFrame State.serveLayoutRead)

/-- LAYOUT_WRITE judged and carried out (R180): the value replaces the item in the pending image. -/
def State.serveLayoutWrite (s : State) (f : RxFrame) : State × Answer :=
  match s.serviceGate f with
  | some st => (s, .plain st)
  | none =>
    if s.writing then (s, .plain .notNow)
    else match Item.ofNumber (f.num16 1) with
      | none => (s, .plain .badValue)
      | some i =>
        let v := f.itemValue i
        if i.inRange v then
          let image := s.store.image.set i v
          ({ s with store := { s.store with image := image } }, itemAnswer (f.num16 1) (image.get i))
        else (s, .plain .badValue)

/-- LAYOUT_WRITE (R180). -/
def execLayoutWrite (s : State) : Host.Outcome State Fault Refusal :=
  .next (s.take (fun f => f.isRequest 12) oneFrame State.serveLayoutWrite)

/-- LAYOUT_STORE judged (R181): the write of the pending image begins. -/
def State.serveLayoutStore (s : State) (f : RxFrame) : State × Answer :=
  match s.serviceGate f with
  | some st => (s, .plain st)
  | none =>
    if s.writing then (s, .plain .notNow)
    else ({ s with store := { s.store with result := .writing } }, .plain .ok)

/-- LAYOUT_STORE (R181). -/
def execLayoutStore (s : State) : Host.Outcome State Fault Refusal :=
  .next (s.take (fun f => f.isRequest 13) oneFrame State.serveLayoutStore)

/-- RESTART judged (R182): from its taking the link takes no further request, and the restart follows its answer. -/
def State.serveRestart (s : State) (f : RxFrame) : State × Answer :=
  match s.serviceGate f with
  | some st => (s, .plain st)
  | none =>
    if s.writing then (s, .plain .notNow)
    else ({ s with link := { s.link with restartAwaited := true } }, .plain .ok)

/-- RESTART (R182). -/
def execRestart (s : State) : Host.Outcome State Fault Refusal :=
  .next (s.take (fun f => f.isRequest 14) oneFrame State.serveRestart)

end Sys2Proof.Machine
end

