-- ==== Sys2Proof/Machine/StatusRequests.lean ====
section
/-! DEFINITION. ZONE_STATUS (R101 to R103) and PLANT_STATUS (R175). -/

namespace Sys2Proof.Machine

/-- The unavailable mark, or the temperature (R101, R175). -/
def ZoneTemp.wire : ZoneTemp → Word16
  | .known t => wordInt t
  | .unknown => 0x8000#16
  | .notSet => 0x8000#16

/-- The governing slot as sent: the no-slot mark for none and the synthetic demand (R101, R102). -/
def ServedFor.wire : ServedFor → Byte
  | .slot n => BitVec.ofNat 8 n.val
  | .none => 0xFF
  | .synthetic => 0xFF

/-- Page 0 of a zone (R102, R175). -/
def ZoneState.page0 (z : ZoneState) : Vector Byte 6 :=
  #v[hiByte z.tZone.wire, loByte z.tZone.wire, hiByte z.tDischarge.wire, loByte z.tDischarge.wire,
     BitVec.ofNat 8 z.grantedFlow, z.servedFor.wire]

/-- An actuator's state byte: the fault reason in bits 7 to 4, the state in bits 3 to 0 (R175). -/
def Actuator.stateByte (x : Actuator) : Byte := nibbles x.reason.code x.state.code

/-- Page 1 of a zone: its outlet damper and its blend door (R103, R175). -/
def page1 (outlet blend : Actuator) : Vector Byte 6 :=
  #v[hiByte (word outlet.reported), loByte (word outlet.reported), outlet.stateByte,
     hiByte (word blend.reported), loByte (word blend.reported), blend.stateByte]

/-- The page byte names the page; a byte that names neither is taken by either row (R101, log 11). -/
def RxFrame.pageIs (f : RxFrame) (page : Nat) : Bool := f.num 2 == page || decide (1 < f.num 2)

/-- The checks of a ZONE_STATUS (R46, R101): its refusal, or its zone. -/
def State.zoneChecks (s : State) (f : RxFrame) : Except Status Zone :=
  match s.gate f with
  | some st => .error st
  | none =>
    match s.store.live.presentZone (f.num 1) with
    | none => .error .badTarget
    | some z => if 1 < f.num 2 then .error .badValue else .ok z

/-- ZONE_STATUS page 0 judged (R101, R102). -/
def State.serveZonePage0 (s : State) (f : RxFrame) : State × Answer :=
  match s.zoneChecks f with
  | .error st => (s, .plain st)
  | .ok z => (s, .one .ok 0 s.climate.zones[z.val].page0)

/-- ZONE_STATUS page 1 judged (R101, R103). -/
def State.serveZonePage1 (s : State) (f : RxFrame) : State × Answer :=
  match s.zoneChecks f with
  | .error st => (s, .plain st)
  | .ok z => (s, .one .ok 1 (page1 (s.drive.act (outletOf z)) (s.drive.act (blendDoorOf z))))

/-- ZONE_STATUS_PAGE_0 (R102). -/
def execZoneStatusPage0 (s : State) : Host.Outcome State Fault Refusal :=
  .next (s.take (fun f => f.isRequest 8 && f.pageIs 0) oneFrame State.serveZonePage0)

/-- ZONE_STATUS_PAGE_1 (R103). -/
def execZoneStatusPage1 (s : State) : Host.Outcome State Fault Refusal :=
  .next (s.take (fun f => f.isRequest 8 && f.pageIs 1) oneFrame State.serveZonePage1)

/-- Bits 7 to 4 of byte 1 of a PLANT_STATUS answer: the mode and the self-check code (R175). -/
def State.plantHigh (s : State) : Nat := 4 * s.modes.mode.code + s.store.selfCheck.code

/-- Byte 2 of a PLANT_STATUS answer (R175). -/
def State.plantByte2 (s : State) : Nat :=
  64 * s.store.result.code + 16 * s.air.contamination.code + 8 * bit s.air.cabHigh + 4 * bit s.link.overrun +
  s.climate.effectiveSupply % 4

/-- Byte 3 of a PLANT_STATUS answer (R175): the clutch state, and bits 9 to 8 of the filter fan duty and of the intake
position. -/
def State.plantByte3 (s : State) : Nat :=
  64 * s.coolant.clutch.code + 4 * (s.fans.fanDuty / 256 % 4) + (s.drive.act intakeDoor).reported / 256 % 4

/-- The values of a PLANT_STATUS answer (R175). -/
def State.plantBytes (s : State) : Vector Byte 6 :=
  #v[BitVec.ofNat 8 s.plantByte2, BitVec.ofNat 8 s.plantByte3,
     loByte (word (s.drive.act intakeDoor).reported), loByte (word s.fans.fanDuty),
     hiByte (word s.climate.blowerFlow), loByte (word s.climate.blowerFlow)]

/-- PLANT_STATUS: answered OK in every mode and to every station (R46); its composition clears the link overrun flag
(R165). -/
def State.servePlant (s : State) (_f : RxFrame) : State × Answer :=
  ({ s with link := { s.link with overrun := false } }, .one .ok s.plantHigh s.plantBytes)

/-- PLANT_STATUS (R175). -/
def execPlantStatus (s : State) : Host.Outcome State Fault Refusal :=
  .next (s.take (fun f => f.isRequest 9) oneFrame State.servePlant)

end Sys2Proof.Machine
end

