-- ==== Sys2Proof/Machine/Dispatch.lean ====
section
/-! DEFINITION. The meaning of each command: one arm per constructor of Instr, in the order of
spec/opcode_table.json. -/

namespace Sys2Proof.Machine

/-- A command's effect on everything but the queue of commands that wait. -/
def exec (i : Instr) (s : State) : Host.Outcome State Fault Refusal :=
  match i with
  | .powerOnReset memoryGood => Sys2Proof.Machine.execPowerOnReset memoryGood s
  | .frameReceived frame => Sys2Proof.Machine.execFrameReceived frame s
  | .post => Sys2Proof.Machine.execPost s
  | .withdrawByKey => Sys2Proof.Machine.execWithdrawByKey s
  | .withdrawBySlot => Sys2Proof.Machine.execWithdrawBySlot s
  | .lookupByKey => Sys2Proof.Machine.execLookupByKey s
  | .lookupBySlot => Sys2Proof.Machine.execLookupBySlot s
  | .list => Sys2Proof.Machine.execList s
  | .refresh => Sys2Proof.Machine.execRefresh s
  | .lock => Sys2Proof.Machine.execLock s
  | .unlock => Sys2Proof.Machine.execUnlock s
  | .zoneStatusPage0 => Sys2Proof.Machine.execZoneStatusPage0 s
  | .zoneStatusPage1 => Sys2Proof.Machine.execZoneStatusPage1 s
  | .plantStatus => Sys2Proof.Machine.execPlantStatus s
  | .supply => Sys2Proof.Machine.execSupply s
  | .layoutRead => Sys2Proof.Machine.execLayoutRead s
  | .layoutWrite => Sys2Proof.Machine.execLayoutWrite s
  | .layoutStore => Sys2Proof.Machine.execLayoutStore s
  | .restart => Sys2Proof.Machine.execRestart s
  | .badRequest => Sys2Proof.Machine.execBadRequest s
  | .transmissionComplete => Sys2Proof.Machine.execTransmissionComplete s
  | .busOff => Sys2Proof.Machine.execBusOff s
  | .busOffRecovery => Sys2Proof.Machine.execBusOffRecovery s
  | .lapse station => Sys2Proof.Machine.execLapse station s
  | .durationTimerExpiry => Sys2Proof.Machine.execDurationTimerExpiry s
  | .allocation => Sys2Proof.Machine.execAllocation s
  | .scanTimerExpiry => Sys2Proof.Machine.execScanTimerExpiry s
  | .conversionComplete raw => Sys2Proof.Machine.execConversionComplete raw s
  | .dwellTimerExpiry => Sys2Proof.Machine.execDwellTimerExpiry s
  | .clearHoldExpiry => Sys2Proof.Machine.execClearHoldExpiry s
  | .cabClearHoldExpiry => Sys2Proof.Machine.execCabClearHoldExpiry s
  | .intakeComputation => Sys2Proof.Machine.execIntakeComputation s
  | .doorSwitchChange door isOpen => Sys2Proof.Machine.execDoorSwitchChange door isOpen s
  | .boostTimerExpiry => Sys2Proof.Machine.execBoostTimerExpiry s
  | .guardTimerExpiry => Sys2Proof.Machine.execGuardTimerExpiry s
  | .minimumOnTimerExpiry => Sys2Proof.Machine.execMinimumOnTimerExpiry s
  | .highPressureSwitchChange isOpen => Sys2Proof.Machine.execHighPressureSwitchChange isOpen s
  | .pressureHoldExpiry => Sys2Proof.Machine.execPressureHoldExpiry s
  | .overCurrentAssertion asserted => Sys2Proof.Machine.execOverCurrentAssertion asserted s
  | .pauseTimerExpiry => Sys2Proof.Machine.execPauseTimerExpiry s
  | .actuatorStep actuator => Sys2Proof.Machine.execActuatorStep actuator s
  | .moveComplete actuator => Sys2Proof.Machine.execMoveComplete actuator s
  | .homingStall actuator => Sys2Proof.Machine.execHomingStall actuator s
  | .homingNoStop actuator => Sys2Proof.Machine.execHomingNoStop actuator s
  | .homingTravelOverrun actuator => Sys2Proof.Machine.execHomingTravelOverrun actuator s
  | .stall actuator => Sys2Proof.Machine.execStall actuator s
  | .ignitionInputChange isOn => Sys2Proof.Machine.execIgnitionInputChange isOn s
  | .ignitionDebounceExpiry => Sys2Proof.Machine.execIgnitionDebounceExpiry s
  | .storeWriteEnd verified => Sys2Proof.Machine.execStoreWriteEnd verified s

end Sys2Proof.Machine
end

