-- ==== Sys2Proof/Safety.lean ====
section
/-! DEFINITION. What a sound state of the ZC-840 is, block by block: the relations that the rules promise at every moment.
The invariants of the statements are these. -/

namespace Sys2Proof.Machine

/-! ## The terms of the statements about requests -/

/-- The head frame of the receive FIFO is f, and the link can take it with n frames of room (R166, R182). -/
structure State.CanTake (s : State) (f : RxFrame) (rest : List RxFrame) (n : Nat) : Prop where
  head : s.link.rx = f :: rest
  online : s.link.state = .online
  noRestart : s.link.restartAwaited = false
  room : s.link.tx.length + s.link.reserved + n ≤ 24

/-- An answer of one frame: its status, bits 7 to 4 of byte 1, and bytes 2 to 7 (R172, R175). -/
def State.reply (s : State) (f : RxFrame) (st : Status) (hi : Nat) (bytes : Vector Byte 6) : State :=
  s.placeAnswer f { status := st, parts := [{ hi := hi, body := bytes }] }

/-- A refusal with no values: bytes 2 to 7 are 0 (R168, R175). -/
def State.refuse (s : State) (f : RxFrame) (st : Status) : State := s.reply f st 0 #v[0, 0, 0, 0, 0, 0]

/-- A refusal where an acceptance carries a record: the empty record (R168, R174). -/
def State.refuseRecord (s : State) (f : RxFrame) (st : Status) : State := s.reply f st 0 #v[0xFF, 0, 0, 0, 0, 0]

/-- An answer that carries a record of a slot (R174). -/
def State.replyRecord (s : State) (f : RxFrame) (st : Status) (n : Slot) (r : Record) : State :=
  s.reply f st r.flags.code
    #v[BitVec.ofNat 8 n.val, nibbles r.target.val r.kind.code, nibbles r.state.code r.station.val,
       nibbles (r.level.getD 0) (r.grantedLevel.getD 0), hiByte (word (r.value.getD 0)), loByte (word (r.value.getD 0))]

/-- A POST frame passes checks 1 to 7 with target t and kind k (R8). -/
structure State.PostPasses (s : State) (f : RxFrame) (t : Target) (k : Kind) : Prop where
  mode : s.modes.mode = .homing ∨ s.modes.mode = .run
  defined : s.defined f.station = true
  target : s.store.live.presentTarget (f.high 1) = some t
  kind : Kind.ofCode (f.low 1) = some k
  allowed : k.allowedOn t = true
  targetRight : (s.config f.station).targetRights.testBit t.val = true
  kindRight : (s.config f.station).kindRights.testBit (k.code - 1) = true
  lock : ∀ h, s.lockOf t = some h → h = f.station

/-- What a POST frame stores for kind k, under its station's maximum level (R12). -/
def State.posted (s : State) (f : RxFrame) (k : Kind) : PostFields :=
  clampPost k (s.config f.station).maxLevel (f.num 2) (f.num16 3)

/-- The record an accepted POST creates (R11). -/
def State.newRecord (s : State) (f : RxFrame) (t : Target) (k : Kind) : Record :=
  { target := t, station := f.station, kind := k, postSeq := s.table.postSeq,
    level := (s.posted f k).level, value := (s.posted f k).value, state := .pending,
    grantedFlow := if t = intakeTarget then none else some 0,
    grantedLevel := if t = intakeTarget then none else some 0,
    flags := { clamped := (s.posted f k).clamped, noTemp := false, noCool := false, coldEngine := false } }

/-- The record in slot m is the first of target t's list, was judged first, and no record of class c or below stands in
that list: a new record of class c displaces it (R26, R31). -/
def State.displacedBy (s : State) (t : Target) (c : Nat) (m : Slot) : Prop :=
  (s.list t).head? = some m ∧ (s.list t).any (s.classAtMost c) = false ∧
  (s.record m).any (fun r => r.state.judgedFirst) = true

/-- The request rows: those that take the head frame of the receive FIFO. -/
def requestRows : List Instr :=
  [.post, .withdrawByKey, .withdrawBySlot, .lookupByKey, .lookupBySlot, .list, .refresh, .lock, .unlock,
   .zoneStatusPage0, .zoneStatusPage1, .plantStatus, .supply, .layoutRead, .layoutWrite, .layoutStore, .restart,
   .badRequest]

/-- The commands that can reset the device: a power-on, the end of a verified write, and the answer of RESTART sent or
discarded (R181, R182). -/
def mayReset : Instr → Bool
  | .powerOnReset _ | .storeWriteEnd _ | .transmissionComplete | .busOff => true
  | _ => false

/-- No event is waiting to complete homing: R184 completes it at the event that settles the last actuator. -/
def State.homingOpen (s : State) : Prop := ¬ (s.modes.mode = .homing ∧ s.allSettled = true)

/-! ## The terms of the statements about notices -/

/-- A notice as its block generates it: its station, its category and its eight bytes (R55, R174). -/
structure Notice where
  station  : Station
  category : Category
  data     : Vector Byte 8
  deriving DecidableEq, Repr

/-- Notices handed one after another, each judged against the room that those before it have left (R34, R56, R169). -/
def State.handNotices (s : State) (ns : List Notice) : State :=
  ns.foldl (fun s n => s.handNotice n.station n.category n.data) s

/-- From s to t exactly the notices ns have been handed to the link, in this order: the link and every notice-overrun flag
stand as the handing leaves them, and no mask has changed (R55, R58, R169). -/
structure State.AfterNotices (t s : State) (ns : List Notice) : Prop where
  link : t.link = (s.handNotices ns).link
  flags : ∀ st, (t.entry st).overrun = ((s.handNotices ns).entry st).overrun
  masks : ∀ st, (t.entry st).mask = (s.entry st).mask

/-- The RETIRE notices of a set of retirements with one reason (R20, R22): one for each live slot that `gone` picks, in
ascending slot order, carrying the record as `gone` gives it. -/
def State.retireNotices (s : State) (reason : Nat) (gone : Record → Option Record) : List Notice :=
  (List.finRange 40).filterMap (fun n => (s.record n).bind (fun r => (gone r).map (fun q =>
    { station := q.station, category := .retire, data := q.notice .retire reason n })))

/-- The notice of one category that a change of the record in slot n from s to t calls for: none where `changed` is not
met, otherwise one to its owner that carries the record as it stands in t (R34, R82). -/
def State.changeNotice (t s : State) (c : Category) (changed : Record → Record → Bool) (n : Slot) : List Notice :=
  match s.record n, t.record n with
  | some old, some new =>
    if changed old new then [{ station := new.station, category := c, data := new.notice c 0 n }] else []
  | _, _ => []

/-- The STATE notice of a change of state from s to t of the record in slot n (R34). -/
def State.stateChange (t s : State) (n : Slot) : List Notice :=
  t.changeNotice s .state (fun old new => old.state != new.state) n

/-- The LIMIT notice of a change of granted level from s to t of the record in slot n (R82). -/
def State.limitChange (t s : State) (n : Slot) : List Notice :=
  t.changeNotice s .limit (fun old new => old.grantedLevel != new.grantedLevel) n

/-- The notices of an allocation from s to t for one zone list: LIMIT and then STATE of the governing record, then the
STATE notices of those behind it in list order (R82). -/
def State.zoneChanges (t s : State) : List Slot → List Notice
  | [] => []
  | n :: rest => t.limitChange s n ++ t.stateChange s n ++ rest.flatMap (t.stateChange s)

/-- The STATE notice of a displacement in s by a new record of class c on target u, if there is one (R31, R34). -/
def State.displacements (s : State) (u : Target) (c : Nat) : List Notice :=
  match s.governing u with
  | none => []
  | some (m, r) =>
    if (s.list u).any (s.classAtMost c) = false ∧ r.state.judgedFirst = true then
      [{ station := r.station, category := .state, data := { r with state := .queued }.notice .state 0 m }]
    else []

/-! ## Refrigerant and coolant control -/

/-- The clutch control at every moment (R105, R106, R109 to R114): what each clutch state says of the timers, the
lockouts and the request kept; the SUPPLY lockout follows the effective supply level, the PRESSURE lockout the switch
and the pressure hold. -/
structure State.ClutchSound (s : State) : Prop where
  on : s.coolant.clutch = .on → s.coolant.lockouts.any = false ∧ s.coolant.guardTimer = none ∧
    (s.coolant.minOnTimer = none → s.coolant.cooling = true)
  off : s.coolant.clutch = .off → s.coolant.lockouts.any = false ∧ s.coolant.guardTimer = none ∧
    s.coolant.minOnTimer = none ∧ s.coolant.cooling = false
  guard : s.coolant.clutch = .guard → s.coolant.guardTimer.isSome = true ∧ s.coolant.minOnTimer = none
  locked : s.coolant.clutch = .locked → s.coolant.lockouts.any = true ∧ s.coolant.minOnTimer = none
  supply : s.coolant.lockouts.supply = true ↔ s.climate.effectiveSupply = 3
  pressure : s.coolant.lockouts.pressure = true ↔ (s.pins.pressureOpen = true ∨ s.coolant.pressureHold.isSome = true)
  hold : s.pins.pressureOpen = true → s.coolant.pressureHold = none

/-! ## Cab network link -/

/-- The link at every moment (R164, R165, R166, R169, R170, R182): both queues within their places, no place reserved
between two events, nothing queued while OFFLINE, bus-off only while OFFLINE, frames of CAN length; and a restart that
is awaited waits for an answer that is in the outgoing queue. -/
structure State.LinkSound (s : State) : Prop where
  tx : s.link.tx.length ≤ 24
  rx : s.link.rx.length ≤ 8
  reserved : s.link.reserved = 0
  offline : s.link.state = .offline → s.link.rx = [] ∧ s.link.tx = []
  busOff : s.link.busOff = true → s.link.state = .offline
  bytes : ∀ f ∈ s.link.rx, f.data.length ≤ 8
  restart : s.link.restartAwaited = true → s.link.tx.any TxFrame.isRestartAnswer = true

/-! ## Actuator drive -/

/-- The actuator drive at every moment (R149, R151, R153): at most six in motion, no actuator twice in the motion
queue, only UNHOMED and READY ones waiting, none waiting while a channel is free; a phase exactly while homing; a step
position and a travel within the limits wherever the actuator is READY or MOVING. -/
structure State.DriveSound (s : State) : Prop where
  channels : s.drive.busy ≤ 6
  once : s.drive.queue.Nodup
  waiting : ∀ a ∈ s.drive.queue, (s.drive.act a).state = .unhomed ∨ (s.drive.act a).state = .ready
  freeTaken : s.drive.queue ≠ [] → s.drive.busy = 6
  absent : ∀ a, s.actPresent a = false → (s.drive.act a).state = .unhomed ∧ a ∉ s.drive.queue
  phase : ∀ a, (s.drive.act a).phase = .none ↔
    (s.drive.act a).state ≠ .homing ∧ (s.drive.act a).state ≠ .rehoming
  homed : ∀ a, (s.drive.act a).state = .ready ∨ (s.drive.act a).state = .moving →
    ∃ T n, (s.drive.act a).travel = some T ∧ (s.drive.act a).step = some n ∧
      s.store.live.travelLow ≤ T ∧ T ≤ s.store.live.travelHigh

/-! ## Demand table and station register -/

/-- Which optional fields a record has, by its kind and target (R1, R2). -/
def Record.shaped (r : Record) : Prop :=
  (r.level.isSome ↔ r.kind = .defrost ∨ r.kind = .rehab ∨ r.kind = .comfort) ∧
  (r.value.isSome ↔ r.kind ≠ .defrost ∧ r.kind ≠ .seal) ∧
  (r.grantedFlow.isSome ↔ r.target ≠ intakeTarget) ∧
  (r.grantedLevel.isSome ↔ r.target ≠ intakeTarget)

/-- How many records of a station are live (R45). -/
def State.liveCount (s : State) (st : Station) : Nat :=
  (List.finRange 40).countP (fun n => (s.record n).any (fun r => r.station == st))

/-- A record stands before another by class, and within a class by post sequence (R25). -/
def Record.before (r q : Record) : Prop :=
  r.kind.cls < q.kind.cls ∨ (r.kind.cls = q.kind.cls ∧ r.postSeq ≤ q.postSeq)

/-- The records in two slots stand in order (R25). -/
def State.inOrder (s : State) (n m : Slot) : Prop :=
  ∀ r q, s.record n = some r → s.record m = some q → r.before q

/-- The demand table at every moment (R3, R4, R5, R7, R9, R25, R45): each list holds exactly its target's live slots,
once each and in order; keys are unique; kinds stand on their targets; slots 38 and 39 hold only station 0's SEAL and
PURGE, the others none of station 0; no post sequence is ahead of the counter; live records and remaining quota make the
quota. -/
structure State.TableSound (s : State) : Prop where
  exact : ∀ n t, n ∈ s.list t ↔ ∃ r, s.record n = some r ∧ r.target = t
  once : ∀ t, (s.list t).Nodup
  ordered : ∀ t, (s.list t).Pairwise s.inOrder
  keys : ∀ n m r q, s.record n = some r → s.record m = some q → r.target = q.target → r.station = q.station →
    r.kind = q.kind → n = m
  allowed : ∀ n r, s.record n = some r → r.kind.allowedOn r.target = true ∧ s.store.live.targetPresent r.target = true
  fields : ∀ n r, s.record n = some r → r.shaped
  internal : ∀ n r, s.record n = some r → (r.station = 0 ↔ 38 ≤ n.val)
  slot38 : ∀ r, s.record sealSlot = some r → r.kind = .seal
  slot39 : ∀ r, s.record purgeSlot = some r → r.kind = .purge
  sequence : ∀ n r, s.record n = some r → r.postSeq ≤ s.table.postSeq
  quota : ∀ st, s.liveCount st + (s.entry st).quota = s.store.live.quotaOf st

/-! ## Air quality monitor and intake controller -/

/-- The monitor and the intake controller at every moment (R118 to R123, R126, R128, R131 to R134): the dwell timer only
in SUSPECT and the clear-hold timer only in CONTAMINATED, both after evaluation has started; before it the state is
SUSPECT, after it both readings are known; the cab clear-hold timer only while CAB_HIGH; the boost timer only with every
door closed; a stepped duty exactly while pressurizing; the filter fan at the output duty. -/
structure State.AirSound (s : State) : Prop where
  dwell : s.air.dwellTimer.isSome = true → s.air.contamination = .suspect ∧ s.air.evaluating = true
  clearHold : s.air.clearHoldTimer.isSome = true → s.air.contamination = .contaminated ∧ s.air.evaluating = true
  waiting : s.air.evaluating = false → s.air.contamination = .suspect ∧
    (s.air.judgedCo = none ∨ s.air.judgedParticle = none)
  readings : s.air.evaluating = true → s.air.judgedCo.isSome = true ∧ s.air.judgedParticle.isSome = true
  cabClear : s.air.cabClearTimer.isSome = true → s.air.cabHigh = true
  boost : s.intake.boostTimer.isSome = true → s.pins.anyDoorOpen = false
  stepped : s.intake.steppedDuty.isSome = s.intake.pressurizing
  fan : s.fans.fanDuty = s.intake.outputDuty

/-- A contaminated cab is sealed (R125, R129): in HOMING and RUN slot 38 is live, and the intake door target is 0
wherever the mode is not RUN and, in RUN, while the state is CONTAMINATED. Slot 38 holds nothing but station 0's SEAL on
the intake, and station 0 has no lapse timer (R5, R42). -/
structure State.SealSound (s : State) : Prop where
  posted : s.serving = true → s.air.contamination = .contaminated → (s.record sealSlot).isSome = true
  door : s.modes.mode ≠ .run ∨ s.air.contamination = .contaminated → s.intake.doorTarget = 0
  slot38 : ∀ r, s.record sealSlot = some r → r.station = 0 ∧ r.kind = .seal ∧ r.target = intakeTarget
  station0 : (s.entry 0).lapse = .stopped

/-! ## The plant at rest -/

/-- The plant is at rest outside RUN (R84, R100, R115, R116, R135, R159, R161): the clutch is released with no request
kept, the valve closed, both fans at duty 0, no grant and no pressurizing. In START and PARKED there is no record and no
lock (R22, R24, R54). -/
structure State.RestSound (s : State) : Prop where
  clutch : s.modes.mode ≠ .run → s.coolant.clutch ≠ .on ∧ s.coolant.cooling = false ∧ s.coolant.valveOpen = false
  fans : s.modes.mode ≠ .run → s.fans.blowerDuty = 0 ∧ s.fans.fanDuty = 0 ∧ s.intake.outputDuty = 0
  climate : s.modes.mode ≠ .run → s.climate.blowerFlow = 0 ∧ s.climate.blowerDuty = 0 ∧
    (∀ z : Zone, s.climate.zones[z.val].grantedFlow = 0 ∧ s.climate.zones[z.val].outletTarget = 0)
  intake : s.modes.mode ≠ .run → s.intake.pressurizing = false
  empty : s.modes.mode = .start ∨ s.modes.mode = .parked →
    (∀ n, s.record n = none) ∧ (∀ t, s.lockOf t = none)

/-! ## The terms of the statements about the monitor and the modes -/

/-- The record that a post of the monitor creates: station 0's, of kind k on the intake, PENDING and with no grants
(R11, R15). -/
def internalRecord (k : Kind) (value : Option Nat) : Record :=
  { target := 8, station := 0, kind := k, postSeq := 0, level := none, value := value, state := .pending,
    grantedFlow := none, grantedLevel := none, flags := ⟨false, false, false, false⟩ }

/-- A post of the monitor to slot n: the record is created where the slot is free, and nothing is done where it is live
(R15). -/
def State.monitorPost (s : State) (n : Slot) (k : Kind) (value : Option Nat) : State :=
  if s.record n = none then s.create n (internalRecord k value) else s

/-- The posts that an entry into HOMING or RUN calls for: SEAL to slot 38 in CONTAMINATED (R125), then PURGE to slot 39
while CAB_HIGH holds (R127); their order is the model's choice (log 17). -/
def State.withInternalPosts (s : State) : State :=
  let sealed := if s.air.contamination = .contaminated then s.monitorPost 38 .seal none else s
  if s.air.cabHigh = true then sealed.monitorPost 39 .purge (some (60 * s.store.live.purgeMinutes)) else sealed

/-- The AIR notices of a change of the contamination state: one for each station 1 to 15 that is PRESENT or SILENT, in
ascending order, carrying the new and the previous state (R56, R124). -/
def State.airChanges (s : State) (new old : Contamination) : List Notice :=
  let code : Contamination → Nat := fun c => match c with | .clear => 0 | .suspect => 1 | .contaminated => 2
  ((List.finRange 16).filter (fun st => decide (st ≠ 0 ∧ (s.entry st).presence ≠ .unseen))).map (fun st =>
    { station := st, category := .air
      data := #v[4, 0, BitVec.ofNat 8 (code new), BitVec.ofNat 8 (code old), 0, 0, 0, 0] })

/-- From s to t the contamination state has become `new` and its AIR notices have been handed, and nothing else has
changed (R56, R124). -/
structure State.AirReported (t s : State) (new : Contamination) : Prop where
  frame : t = { s with air := { s.air with contamination := new }, link := t.link,
                       register := { s.register with entries := t.register.entries } }
  entries : ∀ st, t.entry st = { s.entry st with overrun := (t.entry st).overrun }
  notices : t.AfterNotices s (s.airChanges new s.air.contamination)

/-- What the entry of the contamination state into `new` does after its AIR notices (R125): CLEAR retires slot 38 without a
notice; CONTAMINATED in HOMING and RUN shuts the intake door at once and posts SEAL. -/
def State.contaminationEntry (s : State) (new : Contamination) : State :=
  match new with
  | .clear => s.retire 38
  | .suspect => s
  | .contaminated =>
    if s.modes.mode = .homing ∨ s.modes.mode = .run then
      ({ s with intake := { s.intake with doorTarget := 0 }, drive := s.drive.handTarget 0 0 }).monitorPost 38 .seal none
    else s

/-- From s to t the contamination state has become `new`: the AIR notices, and then what the entry into it does
(R124, R125). -/
def State.ContaminationMoves (t s : State) (new : Contamination) : Prop :=
  ∃ w : State, w.AirReported s new ∧ t = w.contaminationEntry new

/-- The entry into PARKED takes s to t (R22, R54, R84, R94, R115, R116, R128, R135, R158, R159, R161, R185): every record is
retired with reason PARKED, in ascending slot order, and gives its quota back; every lock is free; the computers are at
rest and both fans at 0; an engaged clutch is released, no request is kept and the valve is closed; every present actuator
is handed its park position in ascending number. -/
structure State.EntersParked (t s : State) : Prop where
  frame : t = { s with table := { s.table with slots := t.table.slots, lists := t.table.lists },
                       register := { s.register with entries := t.register.entries, locks := t.register.locks },
                       climate := t.climate, coolant := t.coolant, intake := t.intake, fans := t.fans,
                       drive := t.drive, link := t.link, modes := t.modes }
  modes : t.modes = { s.modes with mode := .parked }
  records : ∀ n, t.record n = none
  lists : ∀ u, t.list u = (s.list u).filter (fun n => ! (s.record n).any (fun r => r.target == u))
  locks : ∀ u, t.lockOf u = none
  climate : t.climate = { s.climate with
    zones := Vector.replicate 8 ⟨.none, 0, 0, .notSet, .notSet, none⟩
    blowerFlow := 0, blowerDuty := 0, coolingRequest := false, heatRequest := false }
  coolant : t.coolant = { s.coolant with
    cooling := false, valveOpen := false
    clutch := if s.coolant.clutch = .on then
        if s.coolant.lockouts.any = true then .locked else .guard
      else s.coolant.clutch
    guardTimer := if s.coolant.clutch = .on then some 30000 else s.coolant.guardTimer
    minOnTimer := if s.coolant.clutch = .on then none else s.coolant.minOnTimer }
  intake : t.intake = { doorTarget := 0, pressurizing := false, steppedDuty := none, outputDuty := 0, boostTimer := none,
                        intakeTimer := s.intake.intakeTimer }
  fans : t.fans = { s.fans with blowerDuty := 0, fanDuty := 0 }
  drive : t.drive = ((List.finRange 17).filter (fun a => s.actPresent a)).foldl
    (fun d a => d.handTarget a (if a.val ≤ 8 then 0 else 500)) s.drive
  notices : t.AfterNotices s (s.retireNotices 4 some)
  entries : ∀ st, (t.entry st).presence = (s.entry st).presence ∧ (t.entry st).lapse = (s.entry st).lapse ∧
    (t.entry st).mask = (s.entry st).mask ∧ (t.entry st).quota = (s.entry st).quota + s.liveCount st

/-- Actuator a needs motion at the entry into HOMING: present, UNHOMED and not waiting (R154). -/
def State.needsHoming (s : State) (a : ActuatorId) : Bool :=
  decide (s.actPresent a = true ∧ (s.drive.act a).state = .unhomed ∧ a ∉ s.drive.queue)

/-- The entry into HOMING takes the drive of s to e (R153, R154): the actuators that need motion, the present ones that are
UNHOMED and not waiting, take the free ones of the six channels in ascending number and begin their closing phase, and
the rest of them join the queue in that order. -/
structure State.DriveHomes (s : State) (e : ActuatorDrive) : Prop where
  queue : e.queue = s.drive.queue ++ ((List.finRange 17).filter (fun a => s.needsHoming a)).drop (6 - s.drive.busy)
  taken : ∀ a ∈ ((List.finRange 17).filter (fun a => s.needsHoming a)).take (6 - s.drive.busy),
    e.act a = { s.drive.act a with state := .homing, phase := .closing, step := none, count := 0 }
  kept : ∀ a, a ∉ ((List.finRange 17).filter (fun a => s.needsHoming a)).take (6 - s.drive.busy) →
    e.act a = s.drive.act a

/-- A reset takes s to t, but for the monitor, the drive and what the monitor posts (R24, R44, R64, R105, R106, R128, R139,
R159, R161, R164, R178, R179, R182, R183): `live` and `code` are what the load gives, and `good` says that the check of the
table memory passes. -/
structure State.Cleared (t s : State) (good : Bool) (live : Layout) (code : SelfCheck) : Prop where
  modes : t.modes = { mode := if good then .homing else .start, ignition := s.pins.ignition, debounce := none }
  link : t.link = { state := .online, busOff := false, rx := [], overrun := false, tx := [], reserved := 0,
                    restartAwaited := false }
  store : t.store = { nv := s.store.nvAtReset, live := live, image := live, result := .none,
                      selfCheck := if good then code else .tableMemory }
  records : ∀ n, t.record n = none
  lists : ∀ u, t.list u = []
  sequence : t.table.postSeq = 0
  duration : t.table.durationTimer = some 1000
  entries : ∀ st, t.entry st = { presence := .unseen, quota := live.quotaOf st, lapse := .stopped,
                                 mask := BitVec.ofNat 4 (live.config st).defaultMask, overrun := false }
  locks : ∀ u, t.lockOf u = none
  supply : t.register.supply = 0
  climate : t.climate = {
    zones := Vector.replicate 8 { servedFor := .none, grantedFlow := 0, outletTarget := 0, tZone := .notSet,
                                  tDischarge := .notSet, blend := none }
    voltageLevel := 0, effectiveSupply := 0, availableFlow := 0, blowerFlow := 0, blowerDuty := 0
    coolingRequest := false, heatRequest := false, allocationTimer := some 1000 }
  coolant : t.coolant = { clutch := .guard, guardTimer := some 30000, minOnTimer := none,
                          lockouts := { ambient := false, freeze := false, pressure := s.pins.pressureOpen,
                                        supply := false, sensor := true },
                          pressureHold := none, cooling := false, valveOpen := false }
  intake : t.intake = { doorTarget := 0, pressurizing := false, steppedDuty := none, outputDuty := 0, boostTimer := none,
                        intakeTimer := some 1000 }
  channels : ∀ c, t.channel c = { condition := if live.enabled c then .awaiting else .absent, filtered := none,
                                  outOfRange := 0, recovery := 0 }
  scan : t.scanner.scanTimer = some live.scanPeriod ∧ t.scanner.scan = []
  fans : t.fans = { blowerDuty := 0, pauseTimer := if s.pins.overCurrent then some 10000 else none, fanDuty := 0 }
  pins : t.pins = s.pins
  pending : t.pending = s.pending

/-! ## The layout's table -/

/-- A row of the layout's table: an item's number, the ends of its range, and its default. -/
structure ItemRow where
  number  : Nat
  low     : Int
  high    : Int
  default : Int
  deriving DecidableEq, Repr

/-- The rows of the table of R176, with the station defaults of R177. -/
def Item.row : Item → ItemRow
  | .zone z .present => ⟨0x0100 + 16 * z.val, if z = 0 then 1 else 0, 1, if z.val ≤ 2 then 1 else 0⟩
  | .zone z .flowPerLevel => ⟨0x0101 + 16 * z.val, 1, 12, 8⟩
  | .zone z .channel => ⟨0x0102 + 16 * z.val, 0, 7, z.val⟩
  | .zone z .gain => ⟨0x0103 + 16 * z.val, 5, 50, 30⟩
  | .station i f =>
    let base := 0x0300 + 16 * (i.val + 1)
    let panel := fun n : Int => if i.val + 1 = 1 ∨ i.val + 1 = 2 then n else 0
    let service := fun n : Int => if i.val + 1 = 15 then n else 0
    match f with
    | .defined => ⟨base, 0, 1, panel 1 + service 1⟩
    | .targetRights => ⟨base + 1, 0, 511, panel 511⟩
    | .kindRights => ⟨base + 2, 0, 63, panel 63⟩
    | .maxLevel => ⟨base + 3, 1, 10, 1 + panel 9⟩
    | .quota => ⟨base + 4, 0, 8, panel 6⟩
    | .lapseInterval => ⟨base + 5, 0, 60, panel 10⟩
    | .lockRight => ⟨base + 6, 0, 1, panel 1⟩
    | .supplyRight => ⟨base + 7, 0, 1, 0⟩
    | .serviceRight => ⟨base + 8, 0, 1, service 1⟩
    | .defaultMask => ⟨base + 9, 0, 15, panel 15⟩
  | .plain f =>
    match f with
    | .bmax => ⟨0x0200, 80, 480, 240⟩
    | .defaultFresh => ⟨0x0201, 0, 1000, 300⟩
    | .cabSetpoint => ⟨0x0202, 160, 300, 210⟩
    | .coSuspect => ⟨0x0400, 5, 500, 25⟩
    | .coAlarm => ⟨0x0401, 5, 500, 50⟩
    | .particulateSuspect => ⟨0x0402, 10, 1000, 150⟩
    | .particulateAlarm => ⟨0x0403, 10, 1000, 400⟩
    | .suspectDwell => ⟨0x0404, 1, 60, 10⟩
    | .clearHold => ⟨0x0405, 10, 600, 120⟩
    | .cabHigh => ⟨0x0406, 5, 500, 35⟩
    | .cabClear => ⟨0x0407, 5, 500, 20⟩
    | .cabClearHold => ⟨0x0408, 5, 300, 30⟩
    | .purgeMinutes => ⟨0x0409, 1, 30, 5⟩
    | .dpTarget => ⟨0x040A, 20, 150, 50⟩
    | .enableSet => ⟨0x0500, 0, 65535, 0xFF07⟩
    | .scanPeriod => ⟨0x0501, 50, 500, 100⟩
    | .travelLow => ⟨0x0600, 400, 4000, 400⟩
    | .travelHigh => ⟨0x0601, 400, 4000, 4000⟩
  | .thermistor i => ⟨0x0510 + i.val, -400, 1200, [1200, 800, 560, 390, 250, 120, -10, -170, -400].getD i.val 0⟩
  | .scaleLo c =>
    ⟨0x0520 + 2 * c.val, if c.val + 11 = 14 then -50 else 0, if c.val + 11 < 14 then 1000 else 200,
     if c.val + 11 = 14 then -50 else 0⟩
  | .scaleHi c =>
    ⟨0x0521 + 2 * c.val, if c.val + 11 = 14 then -50 else 0, if c.val + 11 < 14 then 1000 else 200,
     [500, 1000, 500, 200, 200].getD c.val 0⟩

end Sys2Proof.Machine
end

