-- ==== Sys2Proof/Certificates/Slice0/Obligations.lean ====
section
/-! DEFINITION. The statements about the ZC-840, family by family. Each docstring names the rules a statement formalises;
where a clause is the model's own choice it names the log entry. -/

open Sys2Proof Sys2Proof.Machine

/-! ## The queue of commands -/

/-- A step takes the command at the front of the queue and runs it on the machine with the queue's rest. -/
def Obligations.StepTakesFrontCommand : Prop :=
  ∀ (s : State) (c : Instr) (rest : List Instr), s.pending = c :: rest → step s = exec c { s with pending := rest }

/-- With no command waiting, one step lets 1 ms pass: every running timer loses 1 ms, the expiry commands of those that
run out are the queue, each once and nothing beside them, and nothing else changes. The millisecond, and the order in which
the commands stand (lapse timers in ascending station, then the table's order), are the model's choice (log 4). -/
def Obligations.IdleStepLetsOneMillisecondPass : Prop :=
  ∀ s : State, s.pending = [] → ∃ t, step s = .next t ∧
    t.table.durationTimer = s.table.durationTimer.map (fun ms => ms - 1) ∧
    t.climate.allocationTimer = s.climate.allocationTimer.map (fun ms => ms - 1) ∧
    t.scanner.scanTimer = s.scanner.scanTimer.map (fun ms => ms - 1) ∧
    t.air.dwellTimer = s.air.dwellTimer.map (fun ms => ms - 1) ∧
    t.air.clearHoldTimer = s.air.clearHoldTimer.map (fun ms => ms - 1) ∧
    t.air.cabClearTimer = s.air.cabClearTimer.map (fun ms => ms - 1) ∧
    t.intake.intakeTimer = s.intake.intakeTimer.map (fun ms => ms - 1) ∧
    t.intake.boostTimer = s.intake.boostTimer.map (fun ms => ms - 1) ∧
    t.coolant.guardTimer = s.coolant.guardTimer.map (fun ms => ms - 1) ∧
    t.coolant.minOnTimer = s.coolant.minOnTimer.map (fun ms => ms - 1) ∧
    t.coolant.pressureHold = s.coolant.pressureHold.map (fun ms => ms - 1) ∧
    t.fans.pauseTimer = s.fans.pauseTimer.map (fun ms => ms - 1) ∧
    t.modes.debounce = s.modes.debounce.map (fun ms => ms - 1) ∧
    (∀ st, t.entry st = { s.entry st with
      lapse := match (s.entry st).lapse with
        | .running ms => .running (ms - 1)
        | .held ms => .held ms
        | .stopped => .stopped }) ∧
    t.pending =
      ((List.finRange 16).filter (fun st => match (s.entry st).lapse with
        | .running ms => decide (ms ≤ 1)
        | .held _ => false
        | .stopped => false)).map Instr.lapse ++
      ([(s.table.durationTimer, Instr.durationTimerExpiry), (s.climate.allocationTimer, .allocation),
        (s.scanner.scanTimer, .scanTimerExpiry), (s.air.dwellTimer, .dwellTimerExpiry),
        (s.air.clearHoldTimer, .clearHoldExpiry), (s.air.cabClearTimer, .cabClearHoldExpiry),
        (s.intake.intakeTimer, .intakeComputation), (s.intake.boostTimer, .boostTimerExpiry),
        (s.coolant.guardTimer, .guardTimerExpiry), (s.coolant.minOnTimer, .minimumOnTimerExpiry),
        (s.coolant.pressureHold, .pressureHoldExpiry), (s.fans.pauseTimer, .pauseTimerExpiry),
        (s.modes.debounce, .ignitionDebounceExpiry)].filter
          (fun p => p.1.any (fun ms => decide (ms ≤ 1)))).map (fun p => p.2) ∧
    t = { s with
      table := { s.table with durationTimer := t.table.durationTimer }
      register := { s.register with entries := t.register.entries }
      climate := { s.climate with allocationTimer := t.climate.allocationTimer }
      scanner := { s.scanner with scanTimer := t.scanner.scanTimer }
      air := { s.air with
        dwellTimer := t.air.dwellTimer, clearHoldTimer := t.air.clearHoldTimer, cabClearTimer := t.air.cabClearTimer }
      intake := { s.intake with intakeTimer := t.intake.intakeTimer, boostTimer := t.intake.boostTimer }
      coolant := { s.coolant with
        guardTimer := t.coolant.guardTimer, minOnTimer := t.coolant.minOnTimer, pressureHold := t.coolant.pressureHold }
      fans := { s.fans with pauseTimer := t.fans.pauseTimer }
      modes := { s.modes with debounce := t.modes.debounce }
      pending := t.pending }

/-- What every command leaves alone: the queue of commands; the live layout, but for the commands that can reset the
device (R3, R41, R182); the input pins, but for the commands that report a change of one. -/
def Obligations.CommandsKeepQueueLayoutAndPins : Prop :=
  ∀ (c : Instr) (s t : State), exec c s = .next t →
    t.pending = s.pending ∧
    (mayReset c = false → t.store.live = s.store.live) ∧
    t.pins = match c with
      | .doorSwitchChange d isOpen => { s.pins with doorsOpen := s.pins.doorsOpen.set d.val isOpen }
      | .highPressureSwitchChange isOpen => { s.pins with pressureOpen := isOpen }
      | .overCurrentAssertion asserted => { s.pins with overCurrent := asserted }
      | .ignitionInputChange isOn => { s.pins with ignition := isOn }
      | _ => s.pins

/-- Every command answers a next state in every state, but for FRAME_RECEIVED with more than 8 data bytes, which no CAN
frame has (R163): that one stops. The stop is the model's choice (log 22). -/
def Obligations.OnlyAnOversizeFrameStops : Prop :=
  ∀ (c : Instr) (s : State),
    (∃ t, exec c s = .next t) ∨
    (∃ f, c = .frameReceived f ∧ 8 < f.data.length ∧ exec c s = .fault .oversizeFrame)

/-! ## Resets, the load and the store -/

/-- A power-on reset leaves every block at the values its rules give (R24, R44, R64, R105, R118, R128, R139, R159, R161, R164,
R178, R183; `State.Cleared` lists them block by block), where at least one intake gas channel is enabled; the actuators are
the subject of `HomingTakesChannelsInOrder`. The reset loads what the store holds when it comes: its content, or, with a
write in flight, an image that the load discards for the built-in layout with code LAYOUT_DEFAULT (R178, R181; the content
is the model's choice, log 13). A station's remaining quota is 2 for station 0, 0 for an undefined station and the quota
item otherwise (R42, R43, R44, R45). That no place is reserved and no restart awaited is the model's reading (log 26), and
that the controller is out of bus-off is its own field (log 19). -/
def Obligations.PowerOnResetClearsEveryBlock : Prop :=
  (∀ st : LayoutStore, (st.result ≠ .writing → st.nvAtReset = st.nv) ∧
    (st.result = .writing → st.nvAtReset.load = (Layout.builtIn, .layoutDefault))) ∧
  (∀ l : Layout, l.quotaOf 0 = 2 ∧ l.defined 0 = false ∧ ∀ i : Fin 15, ∀ st : Station, st.val = i.val + 1 →
    l.config st = l.stations[i.val] ∧ (l.defined st = true ↔ l.stations[i.val].defined ≠ 0) ∧
    l.quotaOf st = if l.stations[i.val].defined = 0 then 0 else l.stations[i.val].quota) ∧
  (∀ (s : State) (good : Bool) (live : Layout) (code : SelfCheck), s.store.nvAtReset.load = (live, code) →
    (live.enabled 11 = true ∨ live.enabled 12 = true) →
    ∃ t, exec (.powerOnReset good) s = .next t ∧ t.Cleared s good live code ∧
      t.air = { contamination := .suspect, evaluating := false,
                judgedCo := if live.enabled 11 then none else some live.coSuspect,
                judgedParticle := if live.enabled 12 then none else some live.particulateSuspect,
                dwellTimer := none, clearHoldTimer := none, cabHigh := false, cabClearTimer := none })

/-- With both intake gas channels disabled evaluation starts at the end of the reset (R119, R120): the readings stand at
their suspect thresholds, so the state is SUSPECT with the dwell timer running, or CONTAMINATED at once where a threshold
reaches its alarm threshold, and then the entry into HOMING posts SEAL (R125); no station is told, since all are UNSEEN. Every
other block stands as in `PowerOnResetClearsEveryBlock`. -/
def Obligations.ResetWithoutGasSensorsStartsEvaluation : Prop :=
  ∀ (s : State) (good : Bool) (live : Layout) (code : SelfCheck), s.store.nvAtReset.load = (live, code) →
    live.enabled 11 = false → live.enabled 12 = false →
    let alarm := live.coAlarm ≤ live.coSuspect ∨ live.particulateAlarm ≤ live.particulateSuspect
    ∃ t w, exec (.powerOnReset good) s = .next t ∧ w.Cleared s good live code ∧
      t = (if alarm ∧ good = true then w.monitorPost 38 .seal none else w) ∧
      t.air = { contamination := if alarm then .contaminated else .suspect
                evaluating := true
                judgedCo := some live.coSuspect
                judgedParticle := some live.particulateSuspect
                dwellTimer := if alarm then none else some (1000 * live.suspectDwell)
                clearHoldTimer := none, cabHigh := false, cabClearTimer := none } ∧
      ((t.record sealSlot).isSome = true ↔ alarm ∧ good = true) ∧
      (∀ n, n ≠ sealSlot → t.record n = none) ∧ t.link.state = .online ∧ t.link.tx = []

/-- The entry into HOMING after a reset (R154): the present actuators take the six channels in ascending number and
begin their closing phase, and the rest of them wait in that order; the absent ones are not driven (R149). -/
def Obligations.HomingTakesChannelsInOrder : Prop :=
  ∀ (s t : State), exec (.powerOnReset true) s = .next t →
    let present := (List.finRange 17).filter (fun a => t.actPresent a)
    t.drive.queue = present.drop 6 ∧
    (∀ a ∈ present.take 6, (t.drive.act a).state = .homing ∧ (t.drive.act a).phase = .closing ∧
      (t.drive.act a).count = 0) ∧
    (∀ a, a ∉ present.take 6 → (t.drive.act a).state = .unhomed ∧ (t.drive.act a).phase = .none) ∧
    (∀ a, (t.drive.act a).target = (if a.val ≤ 8 then 0 else 500) ∧ (t.drive.act a).travel = none ∧
      (t.drive.act a).step = none ∧ (t.drive.act a).reported = 0 ∧ (t.drive.act a).rehomeMark = false ∧
      (t.drive.act a).reason = .none)

/-- The outcomes of the load (R178): a blank store and a CRC mismatch give the built-in layout with code LAYOUT_DEFAULT; a
matching image that is in range throughout and whose pairs are in order is live as it stands, with code 0; of another
matching image every item outside its range takes its default and every good one stays, then a scaling pair, or the
travel limits, out of order takes its defaults (log 14), and the code is 3 exactly when something was replaced.
The CRC divides by the generator 0x1021 from 0xFFFF, bit by bit, over the item values in ascending item number; that the bits of
a value go highest first is the model's choice (log 12). -/
def Obligations.LoadTakesTheImageOrDefaults : Prop :=
  NvStore.load .blank = (Layout.builtIn, .layoutDefault) ∧
  (∀ (image : Layout) (crc : Word16), image.crc ≠ crc →
    NvStore.load (.written image crc) = (Layout.builtIn, .layoutDefault)) ∧
  (∀ image : Layout, (∀ i : Item, i.inRange (image.get i) = true) →
    (∀ c : Fin 5, image.get (.scaleLo c) < image.get (.scaleHi c)) → image.travelLow < image.travelHigh →
    NvStore.load (.written image image.crc) = (image, .pass)) ∧
  (∀ image : Layout,
    let good := fun i : Item => if i.inRange (image.get i) then image.get i else i.default
    let live := (NvStore.load (.written image image.crc)).1
    (∀ z f, live.get (.zone z f) = good (.zone z f)) ∧
    (∀ i f, live.get (.station i f) = good (.station i f)) ∧
    (∀ i, live.get (.thermistor i) = good (.thermistor i)) ∧
    (∀ f, f ≠ .travelLow → f ≠ .travelHigh → live.get (.plain f) = good (.plain f)) ∧
    (∀ c, if good (.scaleLo c) < good (.scaleHi c) then
        live.get (.scaleLo c) = good (.scaleLo c) ∧ live.get (.scaleHi c) = good (.scaleHi c)
      else
        live.get (.scaleLo c) = Item.default (.scaleLo c) ∧ live.get (.scaleHi c) = Item.default (.scaleHi c)) ∧
    (if good (.plain .travelLow) < good (.plain .travelHigh) then
        live.get (.plain .travelLow) = good (.plain .travelLow) ∧
        live.get (.plain .travelHigh) = good (.plain .travelHigh)
      else
        live.get (.plain .travelLow) = 400 ∧ live.get (.plain .travelHigh) = 4000) ∧
    ((NvStore.load (.written image image.crc)).2 = .itemsDefaulted ↔ live ≠ image)) ∧
  (∀ image : Layout,
    let bits := fun w : Word16 => (List.range 16).map w.getMsbD
    image.crc = (Item.all.flatMap (fun i => bits (BitVec.ofInt 16 (image.get i)))).foldl
      (fun (c : BitVec 16) b => if c.msb ≠ b then (c <<< 1) ^^^ 0x1021#16 else c <<< 1) 0xFFFF#16) ∧
  (Item.all.map Item.number).Pairwise (· < ·) ∧ ∀ i : Item, i ∈ Item.all

/-- Whatever the store holds, the live layout after a load has every item in its range, every scaling pair in order and
the travel limits in order (R176, R178). -/
def Obligations.LiveLayoutIsInRangeAfterLoad : Prop :=
  ∀ nv : NvStore,
    (∀ i : Item, i.inRange (nv.load.1.get i) = true) ∧
    (∀ c : Fin 5, nv.load.1.get (.scaleLo c) < nv.load.1.get (.scaleHi c)) ∧
    nv.load.1.travelLow < nv.load.1.travelHigh

/-- The end of a layout write (R181): verified, the store holds the pending image and the device restarts as at a power-on
reset that skips the memory check (R182); failed, the result is FAILED and a later load finds no matching image. With no
write in flight the command changes nothing (log 2). -/
def Obligations.StoreWriteEndRestartsOrFails : Prop :=
  ∀ s : State,
    (s.store.result = .writing →
      exec (.storeWriteEnd true) s =
        exec (.powerOnReset true)
          { s with store := { s.store with nv := .written s.store.image s.store.image.crc, result := .none } } ∧
      ∃ t, exec (.storeWriteEnd false) s = .next t ∧ t = { s with store := t.store } ∧ t.store.result = .failed ∧
        t.store.image = s.store.image ∧ t.store.live = s.store.live ∧ t.store.selfCheck = s.store.selfCheck ∧
        t.store.nv.load = (Layout.builtIn, .layoutDefault)) ∧
    (s.store.result ≠ .writing → ∀ verified, exec (.storeWriteEnd verified) s = .next s)

/-! ## The cab network link -/

/-- A frame at the port (R163, R164, R165): a base-format data frame on 0x240 + s joins the tail of the receive FIFO while
the link is ONLINE and the FIFO holds fewer than 8, and is discarded with the link overrun flag set when it holds 8; every
other frame, and every frame while OFFLINE, leaves the machine as it is. -/
def Obligations.FrameReceivedJoinsFifoOrSetsOverrun : Prop :=
  ∀ (s : State) (f : CanFrame), f.data.length ≤ 8 →
    (∀ st : Station, s.link.state = .online → f.extended = false → f.remote = false →
      f.identifier = 0x240 + st.val →
      exec (.frameReceived f) s = .next { s with link :=
        if s.link.rx.length < 8 then { s.link with rx := s.link.rx ++ [{ station := st, data := f.data }] }
        else { s.link with overrun := true } }) ∧
    ((s.link.state = .offline ∨ f.extended = true ∨ f.remote = true ∨ f.identifier < 0x240 ∨ 0x24F < f.identifier) →
      exec (.frameReceived f) s = .next s)

/-- While ONLINE the port sends the head frame of the outgoing queue, as a base-format data frame of 8 bytes on 0x2C0 + its
station; while OFFLINE, or with nothing queued, it sends nothing (R163, R164, R169). The head frame leaves the queue when its
transmission completes (R169); where it is the awaited answer of RESTART the device restarts, as at a power-on reset with a
good table memory (R182); with nothing being sent there is no transmission to complete (log 2). The answer of an accepted RESTART is the frame with the answer mark,
request code 14 and status OK (R172, R173). -/
def Obligations.TransmissionRemovesHeadFrame : Prop :=
  ∀ s : State,
    (∀ (f : TxFrame) (rest : List TxFrame), s.link.state = .online → s.link.tx = f :: rest →
      (s.link.restartAwaited = false ∨ f.isRestartAnswer = false) →
      exec .transmissionComplete s = .next { s with link := { s.link with tx := rest } }) ∧
    (∀ (f : TxFrame) (rest : List TxFrame), s.link.state = .online → s.link.tx = f :: rest →
      s.link.restartAwaited = true → f.isRestartAnswer = true →
      exec .transmissionComplete s = exec (.powerOnReset true) s) ∧
    (∀ (f : TxFrame) (rest : List TxFrame), s.link.state = .online → s.link.tx = f :: rest →
      ∃ c, s.transmitting = some c ∧ c.identifier = 0x2C0 + f.station.val ∧ c.extended = false ∧ c.remote = false ∧
        c.data = [f.data[0], f.data[1], f.data[2], f.data[3], f.data[4], f.data[5], f.data[6], f.data[7]]) ∧
    (s.link.state = .offline ∨ s.link.tx = [] → s.transmitting = none ∧ exec .transmissionComplete s = .next s) ∧
    (∀ f : TxFrame, f.isRestartAnswer = true ↔
      128 ≤ f.data[0].toNat ∧ f.data[0].toNat % 64 = 14 ∧ f.data[1].toNat % 16 = 0)

/-- The entry into bus-off of an ONLINE link (R170, R58, R165, R50): OFFLINE, both queues and every reserved place
discarded; the notice-overrun flag set again for each station with a notice or a marked answer frame among the discarded
ones; the link overrun flag set again for a discarded PLANT_STATUS answer that carried it; every running lapse timer held;
nothing else changes. A discarded answer of RESTART is followed by the restart (R167, R182), which brings the link ONLINE as every start-up does (log 27). A link that is OFFLINE is
not on the bus (log 2). What a frame is shows in its bytes (R172, R175): a notice lacks the answer mark, a marked answer has
bits 7 and 6 of byte 0, and an overrun is reported in bit 2 of byte 2 of a PLANT_STATUS answer. -/
def Obligations.BusOffDiscardsQueuesAndHoldsTimers : Prop :=
  ∀ s : State,
    (s.link.state = .online → (s.link.restartAwaited = false ∨ ∀ f ∈ s.link.tx, f.isRestartAnswer = false) →
      ∃ t, exec .busOff s = .next t ∧
        t = { s with link := t.link, register := { s.register with entries := t.register.entries } } ∧
        t.link = { s.link with state := .offline, busOff := true, rx := [], tx := [], reserved := 0,
                               overrun := t.link.overrun } ∧
        (t.link.overrun = true ↔ s.link.overrun = true ∨ ∃ f ∈ s.link.tx, f.reportsOverrun = true) ∧
        ∀ st, t.entry st = { s.entry st with overrun := (t.entry st).overrun, lapse := (t.entry st).lapse } ∧
          ((t.entry st).overrun = true ↔ (s.entry st).overrun = true ∨
            ∃ f ∈ s.link.tx, f.station = st ∧ (f.isNotice = true ∨ f.isMarked = true)) ∧
          (t.entry st).lapse = match (s.entry st).lapse with
            | .running ms => .held ms
            | .held ms => .held ms
            | .stopped => .stopped) ∧
    (∀ f ∈ s.link.tx, s.link.state = .online → s.link.restartAwaited = true → f.isRestartAnswer = true →
      exec .busOff s = exec (.powerOnReset true) s) ∧
    (s.link.state = .offline → exec .busOff s = .next s) ∧
    (∀ f : TxFrame, (f.isNotice = true ↔ f.data[0].toNat < 128) ∧ (f.isMarked = true ↔ 192 ≤ f.data[0].toNat) ∧
      (f.reportsOverrun = true ↔ 128 ≤ f.data[0].toNat ∧ f.data[0].toNat % 64 = 9 ∧ f.data[1].toNat % 16 = 0 ∧
        f.data[2].toNat / 4 % 2 = 1))

/-- The completion of bus-off recovery (R170, R50): the link is ONLINE again and every held lapse timer restarts at the
full interval of its station; stopped timers stay stopped, and nothing else changes. Out of bus-off there is no recovery
to complete (log 19). -/
def Obligations.RecoveryRestartsHeldTimers : Prop :=
  ∀ s : State,
    (s.link.busOff = true →
      ∃ t, exec .busOffRecovery s = .next t ∧
        t = { s with link := { s.link with state := .online, busOff := false },
                     register := { s.register with entries := t.register.entries } } ∧
        ∀ st, t.entry st = { s.entry st with
          lapse := match (s.entry st).lapse with
            | .held _ => if (s.config st).lapseInterval = 0 then .stopped
                         else .running (1000 * (s.config st).lapseInterval)
            | .running ms => .running ms
            | .stopped => .stopped }) ∧
    (s.link.busOff = false → exec .busOffRecovery s = .next s)

/-- A notice (R42, R55, R58, R169): none for station 0 or where the station's mask lacks the category; placed at the tail
while the link is ONLINE and the queue with the reserved places holds 16 or fewer; otherwise dropped, which sets the
station's notice-overrun flag. A notice that carries a record (R174, R21) has the category code in byte 0, the flags and the
retire reason in byte 1, then the slot, target and kind, state and station, the two levels and the value; an absent level or
value is sent as 0. An AIR notice carries the new and the previous contamination state. -/
def Obligations.NoticesAreFilteredPlacedOrDropped : Prop :=
  (∀ (s : State) (st : Station) (c : Category) (data : Vector Byte 8),
    let bit : Nat := match c with | .state => 0 | .retire => 1 | .limit => 2 | .air => 3
    s.handNotice st c data =
      if st = 0 ∨ (s.entry st).mask.getLsbD bit = false then s
      else if s.link.state = .online ∧ s.link.tx.length + s.link.reserved ≤ 16 then
        { s with link := { s.link with tx := s.link.tx ++ [{ station := st, data := data }] } }
      else s.setEntry st { s.entry st with overrun := true }) ∧
  (∀ (c : Category) (reason : Nat) (n : Slot) (r : Record),
    let code : Nat := match c with | .state => 1 | .retire => 2 | .limit => 3 | .air => 4
    let state : Nat := match r.state with | .pending => 1 | .queued => 2 | .active => 3 | .limited => 4 | .blocked => 5
    let kind : Nat := match r.kind with | .defrost => 1 | .rehab => 2 | .comfort => 3 | .seal => 4 | .purge => 5 | .fresh => 6
    let mark := fun (b : Bool) (weight : Nat) => if b = true then weight else 0
    let level := r.level.getD 0
    let granted := r.grantedLevel.getD 0
    let value := r.value.getD 0
    reason < 16 → level < 16 → granted < 16 → value < 65536 →
    r.notice c reason n = #v[BitVec.ofNat 8 code,
      BitVec.ofNat 8 (mark r.flags.clamped 128 + mark r.flags.noTemp 64 + mark r.flags.noCool 32 +
        mark r.flags.coldEngine 16 + reason),
      BitVec.ofNat 8 n.val, BitVec.ofNat 8 (16 * r.target.val + kind), BitVec.ofNat 8 (16 * state + r.station.val),
      BitVec.ofNat 8 (16 * level + granted), BitVec.ofNat 8 (value / 256), BitVec.ofNat 8 (value % 256)]) ∧
  (∀ new old : Contamination,
    let code : Contamination → Nat := fun c => match c with | .clear => 0 | .suspect => 1 | .contaminated => 2
    airNotice new old = #v[4, 0, BitVec.ofNat 8 (code new), BitVec.ofNat 8 (code old), 0, 0, 0, 0])

/-- The first two steps of taking a frame (R166, R47, R48): it leaves the FIFO and its answer's room is reserved; a frame
of length 8 from a defined station makes that station PRESENT and restarts its lapse timer at its full interval, or leaves
it stopped for an interval of 0; no other entry changes and no other frame counts. A request waits, and nothing changes,
while the link is OFFLINE, a restart is awaited, or the outgoing queue has no free place (R164, R182), and an accepted LIST
waits while its frames outnumber the free places (R39). With an empty FIFO there is nothing to take, and a request row
changes nothing; nor does one whose code byte 0 of the head frame does not carry (R173, log 2). -/
def Obligations.TakingCountsTheFrameOrItWaits : Prop :=
  (∀ (s : State) (f : RxFrame) (rest : List RxFrame) (n : Nat),
    let u := s.beginTake f rest n
    u = { s with link := { s.link with rx := rest, reserved := n },
                 register := { s.register with entries := u.register.entries } } ∧
    (∀ st, st ≠ f.station → u.entry st = s.entry st) ∧
    (f.data.length = 8 → s.defined f.station = true →
      u.entry f.station = { s.entry f.station with
        presence := .present
        lapse := if (s.config f.station).lapseInterval = 0 then .stopped
                 else .running (1000 * (s.config f.station).lapseInterval) }) ∧
    (f.data.length ≠ 8 ∨ s.defined f.station = false → u.entry f.station = s.entry f.station)) ∧
  (∀ (s : State) (c : Instr), c ∈ requestRows →
    (s.link.rx = [] ∨ s.link.state = .offline ∨ s.link.restartAwaited = true ∨
      24 ≤ s.link.tx.length + s.link.reserved) →
    exec c s = .next s) ∧
  (∀ (s : State) (f : RxFrame) (rest : List RxFrame) (t : Target), s.link.rx = f :: rest → f.isRequest 4 = true →
    s.modes.mode ≠ .start → s.defined f.station = true → s.store.live.presentTarget (f.num 1) = some t →
    24 < s.link.tx.length + s.link.reserved + max 1 (((s.list t).length + 5) / 6) →
    exec .list s = .next s) ∧
  (∀ (f : RxFrame) (k i : Nat), (f.isRequest k = true ↔ f.data.length = 8 ∧ (f.data.getD 0 0).toNat = k) ∧
    f.num i = (f.data.getD i 0).toNat ∧ f.num16 i = 256 * f.num i + f.num (i + 1)) ∧
  (∀ (s : State) (f : RxFrame) (rest : List RxFrame) (c : Instr) (k : Nat), s.link.rx = f :: rest →
    (c, k) ∈ [(Instr.post, 1), (.withdrawByKey, 2), (.withdrawBySlot, 2), (.lookupByKey, 3), (.lookupBySlot, 3),
      (.list, 4), (.refresh, 5), (.lock, 6), (.unlock, 7), (.zoneStatusPage0, 8), (.zoneStatusPage1, 8),
      (.plantStatus, 9), (.supply, 10), (.layoutRead, 11), (.layoutWrite, 12), (.layoutStore, 13), (.restart, 14)] →
    (f.isRequest k = false → exec c s = .next s) ∧ (f.isRequest k = true → exec .badRequest s = .next s))

/-- An answer of one frame (R166, R167, R168, R172, R59, R43): its frame stands at the tail of the outgoing queue and carries
the answer mark, the notice-overrun mark where the flag of a defined station is set, the low six bits of the received byte 0,
the number of the status and the values; the reported flag is cleared, the reserved place is freed, and nothing else changes.
An answer that carries a record (R174) has the four flags in bits 7 to 4 of byte 1, then the slot, target and kind, state and
station, the two levels and the value; an absent level or value is sent as 0. -/
def Obligations.AnswerFrameIsPlacedAtTheTail : Prop :=
  ∀ (s : State) (f : RxFrame) (st : Status) (hi : Nat) (b : Vector Byte 6),
    let mark := s.defined f.station && (s.entry f.station).overrun
    let code : Nat := match st with
      | .ok => 0 | .clamped => 1 | .notPermitted => 2 | .badTarget => 3 | .badKind => 4 | .noQuota => 5 | .tableFull => 6
      | .locked => 7 | .notFound => 8 | .notOwner => 9 | .notNow => 10 | .badRequest => 11 | .badValue => 12
    let t := s.reply f st hi b
    t = { s with link := t.link, register := { s.register with entries := t.register.entries } } ∧
    t.link = { s.link with
      reserved := 0
      tx := s.link.tx ++ [{
        station := f.station
        data := #v[BitVec.ofNat 8 (128 + (if mark = true then 64 else 0) + f.num 0 % 64),
                   BitVec.ofNat 8 (hi % 16 * 16 + code), b[0], b[1], b[2], b[3], b[4], b[5]] }] } ∧
    (∀ x, x ≠ f.station → t.entry x = s.entry x) ∧
    t.entry f.station = (if mark = true then { s.entry f.station with overrun := false } else s.entry f.station) ∧
    ∀ (n : Slot) (r : Record),
      let state : Nat := match r.state with | .pending => 1 | .queued => 2 | .active => 3 | .limited => 4 | .blocked => 5
      let kind : Nat := match r.kind with
        | .defrost => 1 | .rehab => 2 | .comfort => 3 | .seal => 4 | .purge => 5 | .fresh => 6
      let flag := fun (b : Bool) (weight : Nat) => if b = true then weight else 0
      let level := r.level.getD 0
      let granted := r.grantedLevel.getD 0
      let value := r.value.getD 0
      level < 16 → granted < 16 → value < 65536 →
      s.replyRecord f st n r = s.reply f st
        (flag r.flags.clamped 8 + flag r.flags.noTemp 4 + flag r.flags.noCool 2 + flag r.flags.coldEngine 1)
        #v[BitVec.ofNat 8 n.val, BitVec.ofNat 8 (16 * r.target.val + kind), BitVec.ofNat 8 (16 * state + r.station.val),
           BitVec.ofNat 8 (16 * level + granted), BitVec.ofNat 8 (value / 256), BitVec.ofNat 8 (value % 256)]

/-- A frame that is no request (R166, R173, R168): one of another length than 8, or whose byte 0 is 0 or above 14, is
answered BAD_REQUEST. -/
def Obligations.BadRequestIsAnswered : Prop :=
  ∀ (s : State) (f : RxFrame) (rest : List RxFrame), s.CanTake f rest 1 →
    (f.data.length ≠ 8 ∨ f.num 0 = 0 ∨ 14 < f.num 0) →
    exec .badRequest s = .next ((s.beginTake f rest 1).refuse f .badRequest)

/-! ## The demand table -/

/-- POST (R8, R9, R10, R11, R13, R14): the checks in order, each with its status; then the record with the posted key is
amended, or, with quota and a free external slot, a new record is created in the lowest one. A target is present where it is
the intake or a zone that the live layout gives (R3); the six kinds have the codes 1 to 6 and their targets (R4). -/
def Obligations.PostIsJudgedInOrder : Prop :=
  ∀ (s : State) (f : RxFrame) (rest : List RxFrame), s.CanTake f rest 1 → f.isRequest 1 = true →
    let u := s.beginTake f rest 1
    let done := fun k => if (s.posted f k).clamped = true then Status.clamped else Status.ok
    exec .post s = .next (
      if s.modes.mode = .start ∨ s.modes.mode = .parked then u.refuseRecord f .notNow
      else if s.defined f.station = false then u.refuseRecord f .notPermitted
      else match s.store.live.presentTarget (f.num 1 / 16), Kind.ofCode (f.num 1 % 16) with
        | none, _ => u.refuseRecord f .badTarget
        | some _, none => u.refuseRecord f .badKind
        | some t, some k =>
          if k.allowedOn t = false then u.refuseRecord f .badKind
          else if (s.config f.station).targetRights.testBit t.val = false then u.refuseRecord f .notPermitted
          else if (s.config f.station).kindRights.testBit (k.code - 1) = false then u.refuseRecord f .notPermitted
          else if (s.lockOf t).any (fun h => h != f.station) = true then u.refuseRecord f .locked
          else match s.findKey t f.station k with
            | some n =>
              match s.record n with
              | none => u.refuseRecord f .notFound
              | some r => (u.setSlot n (some (r.amended (s.posted f k)))).replyRecord f (done k) n
                  (r.amended (s.posted f k))
            | none =>
              if (s.entry f.station).quota = 0 then u.refuseRecord f .noQuota
              else match s.freeExternal with
                | none => u.refuseRecord f .tableFull
                | some n => (u.create n (s.newRecord f t k)).replyRecord f (done k) n (s.newRecord f t k)) ∧
    (s.freeExternal = none ↔ ∀ n : Slot, n.val < 38 → s.record n ≠ none) ∧
    (∀ n t, s.store.live.presentTarget n = some t ↔ t.val = n ∧ (t = 8 ∨ ∃ z : Zone, z.val = n ∧
      s.store.live.zones[z.val].present ≠ 0)) ∧
    ∀ k : Kind,
      let number : Nat := match k with | .defrost => 1 | .rehab => 2 | .comfort => 3 | .seal => 4 | .purge => 5 | .fresh => 6
      k.code = number ∧ (∀ n, Kind.ofCode n = some k ↔ n = number) ∧
      ∀ t : Target, k.allowedOn t = true ↔ match k with
        | .defrost => t = 0
        | .rehab => t ≠ 0 ∧ t ≠ 8
        | .comfort => t ≠ 0 ∧ t ≠ 8
        | .seal => t = 8
        | .purge => t = 8
        | .fresh => t = 8

/-- A POST that passes the checks and finds no record of its key creates one (R6, R7, R11, R26, R31, R45): in the lowest
free slot of 0 to 37, PENDING, with the next post sequence, in its place in its target's list; its station's quota falls
by one; a judged first record that it goes ahead of is QUEUED, with a STATE notice to its owner ahead of the answer (R34),
which is OK, or CLAMPED, with the new record (R13, R14); no other record, list or entry's quota changes, nor any other
block. -/
def Obligations.PostCreatesPendingRecord : Prop :=
  ∀ (s : State) (f : RxFrame) (rest : List RxFrame) (t : Target) (k : Kind) (n : Slot),
    s.CanTake f rest 1 → f.isRequest 1 = true → s.PostPasses f t k →
    (∀ m r, s.record m = some r → ¬ (r.target = t ∧ r.station = f.station ∧ r.kind = k)) →
    (s.entry f.station).quota ≠ 0 →
    n.val < 38 → s.record n = none → (∀ m : Slot, m.val < n.val → s.record m ≠ none) →
    ∃ v, exec .post s = .next v ∧
      v = { s with table := v.table, register := v.register, link := v.link } ∧
      v.record n = some (s.newRecord f t k) ∧
      (∀ m, m ≠ n → s.displacedBy t k.cls m →
        v.record m = (s.record m).map (fun r => { r with state := .queued })) ∧
      (∀ m, m ≠ n → ¬ s.displacedBy t k.cls m → v.record m = s.record m) ∧
      v.list t = insertAfterLast (s.classAtMost k.cls) n (s.list t) ∧
      (∀ x, x ≠ t → v.list x = s.list x) ∧
      v.table.postSeq = (if s.table.postSeq < 4294967295 then s.table.postSeq + 1 else s.table.postSeq) ∧
      v.table.durationTimer = s.table.durationTimer ∧
      (v.entry f.station).presence = .present ∧
      (v.entry f.station).quota = (s.entry f.station).quota - 1 ∧
      (v.entry f.station).mask = (s.entry f.station).mask ∧
      (∀ x, x ≠ f.station → (v.entry x).quota = (s.entry x).quota ∧ (v.entry x).presence = (s.entry x).presence ∧
        (v.entry x).lapse = (s.entry x).lapse ∧ (v.entry x).mask = (s.entry x).mask) ∧
      (∀ x, v.lockOf x = s.lockOf x) ∧ v.register.supply = s.register.supply ∧
      let w := ((s.beginTake f rest 1).handNotices (s.displacements t k.cls)).replyRecord f
        (if (s.posted f k).clamped = true then .clamped else .ok) n (s.newRecord f t k)
      v.link = w.link ∧ ∀ x, v.entry x = { w.entry x with quota := (v.entry x).quota }

/-- A POST whose key matches a live record rewrites that record's level and value and its CLAMPED flag (R9, R10, R13): its
slot, post sequence, state, grants and other flags stay, as do every list, the counter and the quota. -/
def Obligations.PostAmendsMatchingRecord : Prop :=
  ∀ (s : State) (f : RxFrame) (rest : List RxFrame) (t : Target) (k : Kind) (n : Slot) (r : Record),
    s.CanTake f rest 1 → f.isRequest 1 = true → s.PostPasses f t k →
    s.record n = some r → r.target = t → r.station = f.station → r.kind = k →
    (∀ m q, s.record m = some q → q.target = t → q.station = f.station → q.kind = k → m = n) →
    ∃ v, exec .post s = .next v ∧
      v = { s with table := { s.table with slots := v.table.slots }, register := v.register, link := v.link } ∧
      v.record n = some { r with
        level := (s.posted f k).level
        value := (s.posted f k).value
        flags := { r.flags with clamped := (s.posted f k).clamped } } ∧
      (∀ m, m ≠ n → v.record m = s.record m) ∧
      (∀ x, (v.entry x).quota = (s.entry x).quota) ∧
      (v.entry f.station).presence = .present ∧
      (∀ x, v.lockOf x = s.lockOf x) ∧ v.register.supply = s.register.supply ∧
      v.link.tx.length = s.link.tx.length + 1

/-- What a post stores (R12): whatever the level and value bytes hold, the stored level is at most 10 and at most the
station maximum, and the stored value is the one posted, or the nearer end of its kind's range; the fields that a kind does
not have are absent. -/
def Obligations.PostedFieldsAreClamped : Prop :=
  ∀ (most level value : Nat), 1 ≤ most →
    (∃ l, clampPost .defrost most level value = ⟨some l, none,
        decide (10 < level ∨ most < (if level = 0 then 10 else min level 10))⟩ ∧
      l = min (if level = 0 then 10 else min level 10) most) ∧
    (∃ v, clampPost .rehab most level value = ⟨some (min 10 most), some v,
        decide (most < 10 ∨ value = 0 ∨ 20 < value)⟩ ∧
      v = 60 * (if value = 0 then 1 else min value 20)) ∧
    (∃ l v, clampPost .comfort most level value = ⟨some l, some v,
        decide (10 < level ∨ most < min level 10 ∨ value < 160 ∨ 300 < value)⟩ ∧
      l = min (min level 10) most ∧ v = if value < 160 then 160 else if 300 < value then 300 else value) ∧
    clampPost .seal most level value = ⟨none, none, false⟩ ∧
    (∃ v, clampPost .purge most level value = ⟨none, some v, decide (value = 0 ∨ 30 < value)⟩ ∧
      v = 60 * (if value = 0 then 1 else min value 30)) ∧
    clampPost .fresh most level value = ⟨none, some (min value 1000), decide (1000 < value)⟩

/-- A new record is inserted directly after the last entry of its class or a lower one, or at the head when there is none
(R26): the list is cut in two at that place and keeps its order. The creation of a record in a free slot (R7, R26, R31, R34,
R45) inserts it so, with the next post sequence; a judged first record that it goes ahead of is QUEUED, with one STATE notice
to its owner; the quota of its station falls by one; nothing else changes. The classes of the kinds are 1 for DEFROST and SEAL,
2 for REHAB and PURGE, 3 for COMFORT and FRESH (R4). -/
def Obligations.InsertionGoesAfterTheLastOfItsClass : Prop :=
  (∀ (p : Slot → Bool) (n : Slot) (l : List Slot), ∃ ahead behind, l = ahead ++ behind ∧
    insertAfterLast p n l = ahead ++ n :: behind ∧
    (∀ m ∈ behind, p m = false) ∧ (∀ m, ahead.getLast? = some m → p m = true)) ∧
  (∀ (s : State) (n : Slot) (r : Record), s.record n = none → r.state = .pending →
    let t := s.create n r
    t = { s with table := t.table, register := { s.register with entries := t.register.entries }, link := t.link } ∧
    t.record n = some { r with postSeq := s.table.postSeq } ∧
    (∀ m, m ≠ n → t.record m = (s.record m).map (fun q =>
      if (s.list r.target).head? = some m ∧ (s.list r.target).any (s.classAtMost r.kind.cls) = false ∧
          (q.state = .active ∨ q.state = .limited ∨ q.state = .blocked)
        then { q with state := .queued } else q)) ∧
    t.list r.target = insertAfterLast (s.classAtMost r.kind.cls) n (s.list r.target) ∧
    (∀ u, u ≠ r.target → t.list u = s.list u) ∧
    t.table.postSeq = (if s.table.postSeq < 4294967295 then s.table.postSeq + 1 else s.table.postSeq) ∧
    t.table.durationTimer = s.table.durationTimer ∧
    t.AfterNotices s (match (s.list r.target).head? with
      | none => []
      | some m => t.stateChange s m) ∧
    ∀ st, t.entry st = { s.entry st with
      overrun := (t.entry st).overrun
      quota := if st = r.station then (s.entry st).quota - 1 else (s.entry st).quota }) ∧
  (∀ (s : State) (c : Nat) (n : Slot), s.classAtMost c n = true ↔ ∃ r, s.record n = some r ∧
    (match r.kind with | .defrost => 1 | .seal => 1 | .rehab => 2 | .purge => 2 | .comfort => 3 | .fresh => 3) ≤ c) ∧
  (∀ x : RecState, x.judgedFirst = true ↔ x = .active ∨ x = .limited ∨ x = .blocked)

/-- A WITHDRAW of the station's own record, by key or by slot, retires it (R16, R17, R21, R27, R45): its slot is free, it
leaves its list, the station's quota rises by one, no notice is sent, and the answer is OK with the record as it stood;
every other record and list, and every other block, stays. It is refused (R46) in START with NOT_NOW, from an undefined
station with NOT_PERMITTED, with another form byte than 0 or 1 with BAD_VALUE (log 11), for a record that is not there
with NOT_FOUND, and for another station's record with NOT_OWNER; the table stays as it is. Every retirement frees the slot,
takes it out of its list and gives the quota back, and a free slot is left as it is (R21, R27, R45). -/
def Obligations.WithdrawRetiresOwnRecordOrIsRefused : Prop :=
  (∀ (s : State) (f : RxFrame) (rest : List RxFrame) (c : Instr) (n : Slot) (r : Record),
    s.CanTake f rest 1 → f.isRequest 2 = true → s.modes.mode ≠ .start → s.defined f.station = true →
    s.record n = some r → r.station = f.station →
    ((c = .withdrawByKey ∧ f.num 1 = 0 ∧ f.num 2 / 16 = r.target.val ∧ f.num 2 % 16 = r.kind.code ∧
        (∀ m q, s.record m = some q → q.target = r.target → q.station = r.station → q.kind = r.kind → m = n)) ∨
      (c = .withdrawBySlot ∧ f.num 1 = 1 ∧ f.num 2 = n.val)) →
    ∃ v, exec c s = .next v ∧
      v = { s with table := { s.table with slots := v.table.slots, lists := v.table.lists },
                   register := { s.register with entries := v.register.entries }, link := v.link } ∧
      v.record n = none ∧ (∀ m, m ≠ n → v.record m = s.record m) ∧
      v.list r.target = (s.list r.target).filter (fun m => m != n) ∧
      (∀ x, x ≠ r.target → v.list x = s.list x) ∧
      (v.entry f.station).quota = (s.entry f.station).quota + 1 ∧
      (v.entry f.station).presence = .present ∧
      (∀ x, x ≠ f.station → v.entry x = s.entry x) ∧
      ((s.beginTake f rest 1).replyRecord f .ok n r).link = v.link) ∧
  (∀ (s : State) (f : RxFrame) (rest : List RxFrame), s.CanTake f rest 1 → f.isRequest 2 = true →
    let u := s.beginTake f rest 1
    (f.num 1 ≠ 1 → (∀ n, s.keyNamed f 2 = some n → s.modes.mode = .start ∨ s.defined f.station = false ∨ 1 < f.num 1) →
      exec .withdrawByKey s = .next (u.refuseRecord f (
        if s.modes.mode = .start then .notNow else if s.defined f.station = false then .notPermitted
        else if 1 < f.num 1 then .badValue else .notFound))) ∧
    (f.num 1 ≠ 0 → (∀ n r, slotOf (f.num 2) = some n → s.record n = some r →
        r.station ≠ f.station ∨ s.modes.mode = .start ∨ s.defined f.station = false ∨ 1 < f.num 1) →
      exec .withdrawBySlot s = .next (u.refuseRecord f (
        if s.modes.mode = .start then .notNow else if s.defined f.station = false then .notPermitted
        else if 1 < f.num 1 then .badValue
        else if (slotOf (f.num 2)).any (fun n => (s.record n).isSome) = true then .notOwner else .notFound)))) ∧
  (∀ (s : State) (n : Slot),
    (s.record n = none → s.retire n = s) ∧
    ∀ r, s.record n = some r →
      let t := s.retire n
      t = { s with table := { s.table with slots := t.table.slots, lists := t.table.lists },
                   register := { s.register with entries := t.register.entries } } ∧
      t.record n = none ∧ (∀ m, m ≠ n → t.record m = s.record m) ∧
      (∀ u, t.list u = if u = r.target then (s.list u).filter (fun m => m != n) else s.list u) ∧
      ∀ st, t.entry st = { s.entry st with
        quota := if st = r.station then (s.entry st).quota + 1 else (s.entry st).quota })

/-- LOOKUP (R18): the mode and definition checks; then the live record of the slot named, whosever it is, or the sender's
own record of the key named, is answered OK as it stands, and otherwise the answer is NOT_FOUND; no record changes. A form
byte other than 0 and 1 is answered BAD_VALUE (R46, log 11). -/
def Obligations.LookupAnswersTheRecord : Prop :=
  ∀ (s : State) (f : RxFrame) (rest : List RxFrame), s.CanTake f rest 1 → f.isRequest 3 = true →
    let u := s.beginTake f rest 1
    let answer := fun o : Option Slot => match o with
      | none => u.refuseRecord f .notFound
      | some n => match s.record n with
        | none => u.refuseRecord f .notFound
        | some r => u.replyRecord f .ok n r
    let judged := fun o : Option Slot =>
      if s.modes.mode = .start then u.refuseRecord f .notNow
      else if s.defined f.station = false then u.refuseRecord f .notPermitted
      else if 1 < f.num 1 then u.refuseRecord f .badValue
      else answer o
    (f.num 1 ≠ 1 → exec .lookupByKey s = .next (judged (
      match targetOf (f.num 2 / 16), Kind.ofCode (f.num 2 % 16) with
      | some t, some k => s.findKey t f.station k
      | _, _ => none))) ∧
    (f.num 1 ≠ 0 → exec .lookupBySlot s = .next (judged (slotOf (f.num 2)))) ∧
    (∀ n x, slotOf n = some x ↔ x.val = n) ∧ (∀ n t, targetOf n = some t ↔ t.val = n) ∧
    ∀ t st k,
      let has := fun n : Slot => ∃ r, s.record n = some r ∧ r.target = t ∧ r.station = st ∧ r.kind = k
      (∀ n, s.findKey t st k = some n ↔ has n ∧ ∀ m, m < n → ¬ has m) ∧
      (s.findKey t st k = none ↔ ∀ n, ¬ has n)

/-- LIST (R38, R39, R46, R47, R48, R59, R172, R175). An accepted one is answered with the slots of the list in list order,
six to a frame with 0xFF in the empty places, in max(1, ceil(n/6)) frames. Byte 0 of each carries the answer mark, the
notice-overrun mark where the sender's flag is set, and the request code 4; byte 1 the final mark in the last frame, the part
index and the status OK. The sender is PRESENT with its lapse timer at the full interval and its flag cleared; nothing else
changes. A refusal takes one frame with six empty places: START first, then undefined stations, then targets that are not
present. -/
def Obligations.ListSendsTheSlotsInOrder : Prop :=
  ∀ (s : State) (f : RxFrame) (rest : List RxFrame), f.isRequest 4 = true →
    (∀ t, s.modes.mode ≠ .start → s.defined f.station = true → s.store.live.presentTarget (f.num 1) = some t →
      let l := s.list t
      let k := max 1 ((l.length + 5) / 6)
      let first := BitVec.ofNat 8 (128 + (if (s.entry f.station).overrun = true then 64 else 0) + 4)
      let place := fun (p i : Nat) => match l[6 * p + i]? with
        | some n => BitVec.ofNat 8 n.val
        | none => 0xFF
      let interval := (s.config f.station).lapseInterval
      s.CanTake f rest k →
      exec .list s = .next { s with
        register := { s.register with entries := s.register.entries.set f.station.val { s.entry f.station with
          presence := .present
          lapse := if interval = 0 then .stopped else .running (1000 * interval)
          overrun := false } }
        link := { s.link with
          rx := rest
          reserved := 0
          tx := s.link.tx ++ (List.range k).map (fun p => ({
            station := f.station
            data := #v[first, BitVec.ofNat 8 (16 * (((if p + 1 = k then 8 else 0) + p) % 16)),
              place p 0, place p 1, place p 2, place p 3, place p 4, place p 5] } : TxFrame)) } }) ∧
    (s.modes.mode = .start ∨ s.defined f.station = false ∨ s.store.live.presentTarget (f.num 1) = none →
      s.CanTake f rest 1 →
      exec .list s = .next ((s.beginTake f rest 1).reply f
        (if s.modes.mode = .start then .notNow else if s.defined f.station = false then .notPermitted else .badTarget) 8
        #v[0xFF, 0xFF, 0xFF, 0xFF, 0xFF, 0xFF]))

/-- An expiry of the duration timer (R19, R20, R21, R22, R27, R45): every timed record that is ACTIVE or LIMITED loses a
second and is retired when none is left, leaving its list; the RETIRE notices, with reason EXPIRED and the record with no
seconds left, follow in ascending slot order; every other record keeps its duration; the timer begins a new period. The
internal PURGE that runs out while CAB_HIGH holds in HOMING or RUN is followed at once by a new one (R15, R127): what the
expiry leaves where CAB_HIGH does not hold, and then a PENDING record with the full internal purge duration and the next post
sequence, inserted in its place, with the displacement and its STATE notice (R31, R34). -/
def Obligations.DurationExpiryCountsDownServedRecords : Prop :=
  (∀ s : State,
    (s.air.cabHigh = false ∨ s.serving = false ∨
      ∀ r v, s.record purgeSlot = some r → r.counts = true → r.value = some v → 1 < v) →
    ∃ t, exec .durationTimerExpiry s = .next t ∧
      t = { s with table := t.table, register := t.register, link := t.link } ∧
      t.table.durationTimer = some 1000 ∧ t.table.postSeq = s.table.postSeq ∧
      (∀ n, t.record n = match s.record n with
        | none => none
        | some r =>
          if (r.kind = .rehab ∨ r.kind = .purge) ∧ (r.state = .active ∨ r.state = .limited) then
            match r.value with
            | none => some r
            | some v => if v ≤ 1 then none else some { r with value := some (v - 1) }
          else some r) ∧
      (∀ u, t.list u = (s.list u).filter (fun n =>
        ! (s.record n).any (fun r => r.target == u && r.counts && r.value.any (fun v => decide (v ≤ 1))))) ∧
      t.AfterNotices s (s.retireNotices 2 (fun r =>
        if r.counts = true ∧ r.value.any (fun v => decide (v ≤ 1)) = true then some { r with value := some 0 } else none)) ∧
      (∀ st, (t.entry st).quota + t.liveCount st = (s.entry st).quota + s.liveCount st ∧
        (t.entry st).presence = (s.entry st).presence ∧ (t.entry st).lapse = (s.entry st).lapse ∧
        (t.entry st).mask = (s.entry st).mask) ∧
      (∀ u, t.lockOf u = s.lockOf u) ∧ t.register.supply = s.register.supply) ∧
  (∀ (s : State) (r : Record) (v : Nat), s.record purgeSlot = some r → r.counts = true → r.value = some v → v ≤ 1 →
    s.air.cabHigh = true → s.serving = true →
    ∃ u t, exec .durationTimerExpiry { s with air := { s.air with cabHigh := false } } = .next u ∧
      exec .durationTimerExpiry s = .next t ∧
      t = { u with air := s.air, table := t.table, register := { u.register with entries := t.register.entries },
                   link := t.link } ∧
      t.record purgeSlot = some
        { target := 8, station := 0, kind := .purge, postSeq := s.table.postSeq, level := none,
          value := some (60 * s.store.live.purgeMinutes), state := .pending, grantedFlow := none, grantedLevel := none,
          flags := ⟨false, false, false, false⟩ } ∧
      (∀ m, m ≠ purgeSlot → u.displacedBy 8 2 m → t.record m = (u.record m).map (fun q => { q with state := .queued })) ∧
      (∀ m, m ≠ purgeSlot → ¬ u.displacedBy 8 2 m → t.record m = u.record m) ∧
      t.list 8 = insertAfterLast (u.classAtMost 2) purgeSlot (u.list 8) ∧ (∀ x, x ≠ 8 → t.list x = u.list x) ∧
      t.table.postSeq = (if s.table.postSeq < 4294967295 then s.table.postSeq + 1 else s.table.postSeq) ∧
      t.table.durationTimer = some 1000 ∧
      t.AfterNotices u (u.displacements 8 2) ∧
      ∀ st, t.entry st = { u.entry st with
        overrun := (t.entry st).overrun
        quota := if st = 0 then (u.entry st).quota - 1 else (u.entry st).quota })

/-! ## The station register -/

/-- The expiry of a running lapse timer (R49, R22, R54): every record of the station is retired, with a RETIRE notice of
reason LAPSED for each in ascending slot order (R21), every lock it holds is freed, and it is SILENT with its timer stopped and
its quota given back; other stations keep their entries, records and locks. A stopped or held timer does not expire (R48, R50). -/
def Obligations.LapseRetiresTheStationsRecords : Prop :=
  ∀ (s : State) (st : Station),
    (∀ ms, (s.entry st).lapse = .running ms →
      ∃ t, exec (.lapse st) s = .next t ∧
        t = { s with table := { s.table with slots := t.table.slots, lists := t.table.lists },
                     register := { s.register with entries := t.register.entries, locks := t.register.locks },
                     link := t.link } ∧
        (∀ n, t.record n = match s.record n with
          | none => none
          | some r => if r.station = st then none else some r) ∧
        (∀ u, t.lockOf u = if s.lockOf u = some st then none else s.lockOf u) ∧
        (t.entry st).presence = .silent ∧ (t.entry st).lapse = .stopped ∧
        (t.entry st).quota = (s.entry st).quota + s.liveCount st ∧ (t.entry st).mask = (s.entry st).mask ∧
        (∀ x, x ≠ st → t.entry x = s.entry x) ∧
        t.AfterNotices s (s.retireNotices 3 (fun r => if r.station = st then some r else none)) ∧
        (s.TableSound → ∀ u, t.list u = (s.list u).filter (fun n => (s.record n).any (fun r => r.station != st)))) ∧
    ((∀ ms, (s.entry st).lapse ≠ .running ms) → exec (.lapse st) s = .next s)

/-- REFRESH (R57, R46): after the mode and definition checks the value 0xFF leaves the mask and any other value replaces it
by its low four bits; the answer is OK and carries the mask in force. -/
def Obligations.RefreshSetsTheNoticeMask : Prop :=
  ∀ (s : State) (f : RxFrame) (rest : List RxFrame), s.CanTake f rest 1 → f.isRequest 5 = true →
    let u := s.beginTake f rest 1
    let mask : BitVec 4 := if f.byte 1 = 0xFF then (s.entry f.station).mask else (f.byte 1).setWidth 4
    exec .refresh s = .next (
      if s.modes.mode = .start then u.refuse f .notNow
      else if s.defined f.station = false then u.refuse f .notPermitted
      else (u.setEntry f.station { u.entry f.station with mask := mask }).reply f .ok 0
        #v[mask.setWidth 8, 0, 0, 0, 0, 0])

/-- LOCK (R51): START and PARKED, undefined stations, targets that are not present, missing rights and a lock that another
station holds refuse it, in this order; the holder's own LOCK changes nothing, and a free lock is taken, no other lock
changing. -/
def Obligations.LockIsTakenOrRefused : Prop :=
  ∀ (s : State) (f : RxFrame) (rest : List RxFrame), s.CanTake f rest 1 → f.isRequest 6 = true →
    let u := s.beginTake f rest 1
    exec .lock s = .next (
      if s.modes.mode = .start ∨ s.modes.mode = .parked then u.refuse f .notNow
      else if s.defined f.station = false then u.refuse f .notPermitted
      else match s.store.live.presentTarget (f.num 1) with
        | none => u.refuse f .badTarget
        | some t =>
          let c := s.config f.station
          if c.lockRight = 0 ∨ c.targetRights.testBit t.val = false then u.refuse f .notPermitted
          else if (s.lockOf t).any (fun h => h != f.station) = true then u.refuse f .locked
          else (u.setLock t (some f.station)).reply f .ok 0 #v[BitVec.ofNat 8 t.val, 0, 0, 0, 0, 0]) ∧
    ∀ (t : Target) (h : Option Station),
      let v := s.setLock t h
      v = { s with register := { s.register with locks := v.register.locks } } ∧
      ∀ x, v.lockOf x = if x = t then h else s.lockOf x

/-- UNLOCK (R53): after the checks, a free lock is answered NOT_FOUND; the holder, or a station with the SERVICE right,
frees a held one; any other station is refused with NOT_PERMITTED. No record changes. In PARKED, with the plant at rest,
every lock is free. -/
def Obligations.UnlockFreesAHeldLock : Prop :=
  ∀ (s : State) (f : RxFrame) (rest : List RxFrame), s.CanTake f rest 1 → f.isRequest 7 = true →
    let u := s.beginTake f rest 1
    exec .unlock s = .next (
      if s.modes.mode = .start then u.refuse f .notNow
      else if s.defined f.station = false then u.refuse f .notPermitted
      else match s.store.live.presentTarget (f.num 1) with
        | none => u.refuse f .badTarget
        | some t =>
          match s.lockOf t with
          | none => u.refuse f .notFound
          | some h =>
            if h = f.station ∨ (s.config f.station).serviceRight ≠ 0 then
              (u.setLock t none).reply f .ok 0 #v[BitVec.ofNat 8 t.val, 0, 0, 0, 0, 0]
            else u.refuse f .notPermitted) ∧
    (∀ t, s.modes.mode = .parked → s.RestSound → s.defined f.station = true →
      s.store.live.presentTarget (f.num 1) = some t → exec .unlock s = .next (u.refuse f .notFound))

/-- SUPPLY (R60): after the mode check, the definition and the SUPPLY right, the held level becomes the level carried, or 3
when that is above 3, and the answer, OK or CLAMPED, carries the held level. -/
def Obligations.SupplySetsTheHeldLevel : Prop :=
  ∀ (s : State) (f : RxFrame) (rest : List RxFrame), s.CanTake f rest 1 → f.isRequest 10 = true →
    let u := s.beginTake f rest 1
    let level := if 3 < f.num 1 then 3 else f.num 1
    exec .supply s = .next (
      if s.modes.mode = .start then u.refuse f .notNow
      else if s.defined f.station = false ∨ (s.config f.station).supplyRight = 0 then u.refuse f .notPermitted
      else ({ u with register := { u.register with supply := level } } : State).reply f
        (if 3 < f.num 1 then .clamped else .ok) 0 #v[BitVec.ofNat 8 level, 0, 0, 0, 0, 0])

/-! ## Status and service requests -/

/-- ZONE_STATUS (R101, R102, R103, R175): the checks; then page 0 carries the zone's temperatures (the unavailable mark
for one unknown or not set), its granted flow and its governing slot, and page 1 the reported positions, the numbers of the
states and the fault reasons of its outlet damper and blend door, A1 to A8 and A9 to A16 (R149). Another page than 0 or 1 is refused with BAD_VALUE; that either row takes such a frame is
the model's choice (log 11). -/
def Obligations.ZoneStatusCarriesThePage : Prop :=
  ∀ (s : State) (f : RxFrame) (rest : List RxFrame), s.CanTake f rest 1 → f.isRequest 8 = true →
    let u := s.beginTake f rest 1
    let temp := fun t : ZoneTemp => match t with
      | .known t => BitVec.ofInt 16 t
      | .unknown => 0x8000#16
      | .notSet => 0x8000#16
    let door := fun x : Actuator =>
      let reason : Nat := match x.reason with | .none => 0 | .noStop => 1 | .travel => 2 | .stall => 3
      let state : Nat := match x.state with
        | .unhomed => 0 | .homing => 1 | .ready => 2 | .moving => 3 | .rehoming => 4 | .faulted => 5
      BitVec.ofNat 8 (16 * reason + state)
    let judged := fun accepted : Zone → State =>
      if s.modes.mode = .start then u.refuse f .notNow
      else if s.defined f.station = false then u.refuse f .notPermitted
      else match s.store.live.presentZone (f.num 1) with
        | none => u.refuse f .badTarget
        | some z => if 1 < f.num 2 then u.refuse f .badValue else accepted z
    (f.num 2 ≠ 1 → exec .zoneStatusPage0 s = .next (judged (fun z =>
      let c := s.climate.zones[z.val]
      u.reply f .ok 0 #v[hiByte (temp c.tZone), loByte (temp c.tZone), hiByte (temp c.tDischarge),
        loByte (temp c.tDischarge), BitVec.ofNat 8 c.grantedFlow,
        match c.servedFor with
        | .slot n => BitVec.ofNat 8 n.val
        | .none => 0xFF
        | .synthetic => 0xFF]))) ∧
    (f.num 2 ≠ 0 → exec .zoneStatusPage1 s = .next (judged (fun z =>
      let o := s.drive.act (outletOf z)
      let b := s.drive.act (blendDoorOf z)
      u.reply f .ok 1 #v[hiByte (word o.reported), loByte (word o.reported), door o,
        hiByte (word b.reported), loByte (word b.reported), door b]))) ∧
    (∀ n z, s.store.live.presentZone n = some z ↔ z.val = n ∧ s.store.live.zones[z.val].present ≠ 0) ∧
    ∀ z : Zone, (outletOf z).val = 1 + z.val ∧ (blendDoorOf z).val = 9 + z.val

/-- PLANT_STATUS (R175, R46, R165): answered OK in every mode to every station with the numbers of the mode, the self-check
code, the store result, the contamination state, CAB_HIGH, the link overrun flag, the effective supply level, the clutch state, the
intake position, the filter fan duty and the blower flow; composing it clears the link overrun flag. -/
def Obligations.PlantStatusReportsAndClearsOverrun : Prop :=
  ∀ (s : State) (f : RxFrame) (rest : List RxFrame), s.CanTake f rest 1 → f.isRequest 9 = true →
    let u := s.beginTake f rest 1
    let intake := (s.drive.act 0).reported
    let fan := s.fans.fanDuty
    let mode : Nat := match s.modes.mode with | .start => 0 | .homing => 1 | .run => 2 | .parked => 3
    let check : Nat := match s.store.selfCheck with
      | .pass => 0 | .layoutDefault => 1 | .tableMemory => 2 | .itemsDefaulted => 3
    let result : Nat := match s.store.result with | .none => 0 | .writing => 1 | .failed => 2
    let air : Nat := match s.air.contamination with | .clear => 0 | .suspect => 1 | .contaminated => 2
    let clutch : Nat := match s.coolant.clutch with | .off => 0 | .on => 1 | .guard => 2 | .locked => 3
    exec .plantStatus s = .next (({ u with link := { u.link with overrun := false } } : State).reply f .ok
      (4 * mode + check)
      #v[BitVec.ofNat 8 (64 * result + 16 * air +
            (if s.air.cabHigh = true then 8 else 0) + (if s.link.overrun = true then 4 else 0) +
            s.climate.effectiveSupply % 4),
         BitVec.ofNat 8 (64 * clutch + 4 * (fan / 256 % 4) + intake / 256 % 4),
         loByte (word intake), loByte (word fan), hiByte (word s.climate.blowerFlow), loByte (word s.climate.blowerFlow)])

/-- LAYOUT_READ and LAYOUT_WRITE (R180, R46): the mode check, the SERVICE right, then, for a write, the store being
written; an item number that names no item, or a value outside the item's range, is answered BAD_VALUE. A read carries the
value of the live layout; a write replaces the item in the pending image alone and carries it back. -/
def Obligations.LayoutReadAndWriteNameAnItem : Prop :=
  ∀ (s : State) (f : RxFrame) (rest : List RxFrame), s.CanTake f rest 1 →
    let u := s.beginTake f rest 1
    let service := s.defined f.station = true ∧ (s.config f.station).serviceRight ≠ 0
    let carries := fun (v : State) (x : Int) => v.reply f .ok 0
      #v[f.byte 1, f.byte 2, hiByte (BitVec.ofInt 16 x), loByte (BitVec.ofInt 16 x), 0, 0]
    (f.isRequest 11 = true → exec .layoutRead s = .next (
      if s.modes.mode = .start then u.refuse f .notNow
      else if ¬ service then u.refuse f .notPermitted
      else match Item.ofNumber (256 * f.num 1 + f.num 2) with
        | none => u.refuse f .badValue
        | some i => carries u (s.store.live.get i))) ∧
    (f.isRequest 12 = true → exec .layoutWrite s = .next (
      if s.modes.mode = .start then u.refuse f .notNow
      else if ¬ service then u.refuse f .notPermitted
      else if s.store.result = .writing then u.refuse f .notNow
      else match Item.ofNumber (256 * f.num 1 + f.num 2) with
        | none => u.refuse f .badValue
        | some i =>
          let x : Int := if i.signed = true then (f.byte 3 ++ f.byte 4).toInt else ((f.byte 3 ++ f.byte 4).toNat : Int)
          if i.inRange x = true then
            carries { u with store := { u.store with image := u.store.image.set i x } } x
          else u.refuse f .badValue))

/-- An item set in an image reads as the value written, and every other item as before (R180); the numbers of R176 name
the items one to one. Each item has the number, range and default of the tables of R176 and R177, and is carried signed or
unsigned as R176 says. The live layout gives each station's configuration (R41). A zone is present by its item (R3), a channel is enabled by its bit of the enable set (R138), and an
actuator is present with its zone, A0 always (R149). -/
def Obligations.LayoutItemsReadBackAsWritten : Prop :=
  (∀ (l : Layout) (i : Item) (x : Int), i.inRange x = true → (l.set i x).get i = x) ∧
  (∀ (l : Layout) (i j : Item) (x : Int), j ≠ i → (l.set i x).get j = l.get j) ∧
  (∀ i : Item, Item.ofNumber i.number = some i) ∧
  (∀ i j : Item, i.number = j.number → i = j) ∧
  (∀ i : Item, i.number = i.row.number ∧ i.default = i.row.default ∧
    (∀ x : Int, i.inRange x = true ↔ i.row.low ≤ x ∧ x ≤ i.row.high ∧
      ((∃ st, i = .station st .lapseInterval) → x ≠ 1)) ∧
    (i.signed = true ↔ (∃ n, i = .thermistor n) ∨ i = .scaleLo 3 ∨ i = .scaleHi 3)) ∧
  (∀ s : State, (∀ st, s.config st = s.store.live.config st ∧ s.defined st = s.store.live.defined st) ∧
    ∀ a, s.actPresent a = s.store.live.actuatorPresent a) ∧
  ∀ l : Layout,
    (∀ z : Zone, l.zonePresent z = true ↔ l.zones[z.val].present ≠ 0) ∧
    (∀ c : ChannelId, l.enabled c = l.enableSet.testBit c.val) ∧
    l.actuatorPresent 0 = true ∧ ∀ z : Zone, l.actuatorPresent (outletOf z) = l.zonePresent z ∧
      l.actuatorPresent (blendDoorOf z) = l.zonePresent z

/-- LAYOUT_STORE and RESTART (R181, R182, R46): refused in START, without the SERVICE right, and while a store is being
written; otherwise the write begins, or the restart is awaited, with the answer OK. -/
def Obligations.StoreAndRestartNeedServiceAndNoWrite : Prop :=
  ∀ (s : State) (f : RxFrame) (rest : List RxFrame), s.CanTake f rest 1 →
    let u := s.beginTake f rest 1
    let judged := fun accepted : State =>
      if s.modes.mode = .start then u.refuse f .notNow
      else if ¬ (s.defined f.station = true ∧ (s.config f.station).serviceRight ≠ 0) then u.refuse f .notPermitted
      else if s.store.result = .writing then u.refuse f .notNow
      else accepted.reply f .ok 0 #v[0, 0, 0, 0, 0, 0]
    (f.isRequest 13 = true →
      exec .layoutStore s = .next (judged { u with store := { u.store with result := .writing } })) ∧
    (f.isRequest 14 = true →
      exec .restart s = .next (judged { u with link := { u.link with restartAwaited := true } }))

/-! ## The zone climate computer -/

/-- An expiry of the allocation period outside RUN (R63, R68, R110): the effective supply level becomes the greater of the
held supply level and the voltage level, and a change of it judges the SUPPLY lockout; nothing else of the machine
changes. -/
def Obligations.AllocationOutsideRunSetsSupplyLevel : Prop :=
  ∀ s : State, s.modes.mode ≠ .run →
    let level := if s.climate.voltageLevel ≤ s.register.supply then s.register.supply else s.climate.voltageLevel
    exec .allocation s = .next { s with
      climate := { s.climate with allocationTimer := some 1000, effectiveSupply := level }
      coolant := if level = s.climate.effectiveSupply then s.coolant
        else s.coolant.judge { s.coolant.lockouts with supply := decide (level = 3) } }

/-- What the lockouts and the requests do to the clutch (R105, R106, R111, R112, R113, R114) and the valve (R116). When the
first of the five lockouts comes to hold, OFF goes to LOCKED without a guard time and ON is released into LOCKED; when all
have cleared, LOCKED goes to GUARD while the guard timer runs, and otherwise to ON or OFF by the request; every other change of
the set leaves the clutch and its timers. A cooling request that arrives in OFF with no lockout engages the clutch for at
least 10 s; one that goes in ON, with the minimum-on timer stopped, releases it into GUARD for 30 s; every other hand only
keeps the value. A heat request opens or closes the valve. The output is engaged in ON alone. -/
def Obligations.LockoutsActOnTheClutch : Prop :=
  (∀ (c : CoolantControl) (l : Lockouts),
    c.judge l =
      if c.lockouts.any = false ∧ l.any = true then
        match c.clutch with
        | .off => { c with lockouts := l, clutch := .locked, guardTimer := none }
        | .on => { c with lockouts := l, clutch := .locked, guardTimer := some 30000, minOnTimer := none }
        | .guard => { c with lockouts := l }
        | .locked => { c with lockouts := l }
      else if c.lockouts.any = true ∧ l.any = false ∧ c.clutch = .locked then
        if c.guardTimer.isSome = true then { c with lockouts := l, clutch := .guard }
        else if c.cooling = true then
          { c with lockouts := l, clutch := .on, guardTimer := none, minOnTimer := some 10000 }
        else { c with lockouts := l, clutch := .off }
      else { c with lockouts := l }) ∧
  (∀ l : Lockouts, l.any = true ↔
    l.ambient = true ∨ l.freeze = true ∨ l.pressure = true ∨ l.supply = true ∨ l.sensor = true) ∧
  (∀ (c : CoolantControl) (request : Bool),
    c.handCooling request =
      if c.clutch = .off ∧ request = true ∧ c.cooling = false ∧ c.lockouts.any = false then
        { c with cooling := true, clutch := .on, guardTimer := none, minOnTimer := some 10000 }
      else if c.clutch = .on ∧ request = false ∧ c.cooling = true ∧ c.minOnTimer = none then
        { c with cooling := false, clutch := .guard, guardTimer := some 30000, minOnTimer := none }
      else { c with cooling := request }) ∧
  (∀ (c : CoolantControl) (request : Bool), c.handHeat request = { c with valveOpen := request }) ∧
  (∀ c : CoolantControl, c.engaged = true ↔ c.clutch = .on)

/-- An allocation in RUN (R65, R69, R75 to R82, R95 to R97). The available flow is the percentage 100, 75, 50 or 25 of the blower's
maximum that the effective supply level gives, 0 during a blower pause (R70); it is shared by class. Every present zone takes
its grant, its outlet target, its temperatures and its blend, a held blend staying (R92, R94); the blower flow is the sum of the grants and the duty is 0, or
max(150, ceil(1000 B / Bmax)); both requests go to the coolant side; the drive takes the outlet targets and then the new blend
targets. Each zone's first record takes its state, grants and three flags and those behind it are QUEUED with grants of 0
(R32); the notices go zone by zone, LIMIT and then STATE of the first record, then the STATE notices of the others in list
order (R34); nothing else changes. That a change of the effective supply level judges the SUPPLY lockout ahead of the
allocation is the model's reading (log 15). -/
def Obligations.AllocationSetsFlowsAndDuty : Prop :=
  ∀ s : State, s.modes.mode = .run →
    let level := if s.climate.voltageLevel ≤ s.register.supply then s.register.supply else s.climate.voltageLevel
    ∃ t u, exec .allocation s = .next t ∧
      u = { s with
        climate := { s.climate with allocationTimer := some 1000, effectiveSupply := level }
        coolant := if level = s.climate.effectiveSupply then s.coolant
          else s.coolant.judge { s.coolant.lockouts with supply := decide (level = 3) } } ∧
      (let present := (List.finRange 8).filter (fun z => decide (s.store.live.zones[z.val].present ≠ 0))
       let plans := present.map (fun z => (z, u.plan z))
       let grants := shareFlow t.climate.availableFlow plans
       let faulted := fun a : ActuatorId => (s.drive.act a).state = .faulted
       (∀ z : Zone, s.store.live.zonePresent z = true →
          let g := grantOf grants z
          let q := s.store.live.zones[z.val].flowPerLevel
          let p := u.plan z
          t.climate.zones[z.val] = {
            servedFor := match p.demand with
              | .none => .none
              | .synthetic => .synthetic
              | .record n _ => .slot n
            grantedFlow := g
            outletTarget := if g = 0 then 0 else (1000 * g + (10 * q - 1)) / (10 * q)
            tZone := match p.tZone with
              | some x => .known x
              | none => .unknown
            tDischarge := p.tDis
            blend := match p.blend with
              | some b => some b
              | none => s.climate.zones[z.val].blend }) ∧
       (∀ z : Zone, s.store.live.zonePresent z = false → t.climate.zones[z.val] = s.climate.zones[z.val]) ∧
       t.climate.blowerFlow = (present.map (grantOf grants)).sum ∧
       t.climate.blowerDuty = (if t.climate.blowerFlow = 0 then 0
         else max 150 ((1000 * t.climate.blowerFlow + (s.store.live.bmax - 1)) / s.store.live.bmax)) ∧
       t.fans.blowerDuty = t.climate.blowerDuty ∧
       t.climate.availableFlow = (if s.fans.pauseTimer.isSome = true then 0
         else s.store.live.bmax * (match level with | 0 => 100 | 1 => 75 | 2 => 50 | _ => 25) / 100) ∧
       t.climate.coolingRequest = plans.any (fun p => p.2.contributes) ∧
       t.climate.heatRequest = plans.any (fun p => p.2.wantsHeat) ∧
       t.coolant = (u.coolant.handCooling t.climate.coolingRequest).handHeat t.climate.heatRequest ∧
       t.drive = (present.map (fun z => (outletOf z, t.climate.zones[z.val].outletTarget)) ++
           present.filterMap (fun z => (u.plan z).blend.map (fun b => (blendDoorOf z, b)))).foldl
         (fun d x => d.handTarget x.1 x.2) s.drive ∧
       (s.TableSound →
         (∀ (z : Zone) (n : Slot) (rest : List Slot), s.store.live.zonePresent z = true →
           s.list (zoneTarget z) = n :: rest →
           let g := grantOf grants z
           let p := u.plan z
           t.record n = (s.record n).map (fun r => { r with
             state := if faulted (outletOf z) then .blocked else if g = p.full then .active else .limited
             grantedFlow := some (if faulted (outletOf z) then 0 else g)
             grantedLevel := some (if faulted (outletOf z) then 0 else g / s.store.live.zones[z.val].flowPerLevel)
             flags := {
               clamped := r.flags.clamped
               noTemp := decide (faulted (blendDoorOf z) ∨ (r.kind = .comfort ∧ p.blend = none))
               noCool := decide (p.contributes = true ∧ u.coolant.clutch = .locked)
               coldEngine := decide (r.kind = .comfort ∧ ¬ faulted (outletOf z) ∧ p.used < p.level) } }) ∧
           ∀ m ∈ rest, t.record m = (s.record m).map (fun r => { r with
             state := .queued
             grantedFlow := some 0
             grantedLevel := some 0
             flags := ⟨r.flags.clamped, false, false, false⟩ })) ∧
         (∀ m, (∀ z : Zone, s.store.live.zonePresent z = true → m ∉ s.list (zoneTarget z)) → t.record m = s.record m) ∧
         t.AfterNotices s (present.flatMap (fun z => t.zoneChanges s (s.list (zoneTarget z)))))) ∧
      t = { s with
        table := { s.table with slots := t.table.slots }
        register := { s.register with entries := t.register.entries }
        climate := { t.climate with voltageLevel := s.climate.voltageLevel, allocationTimer := some 1000 }
        coolant := t.coolant, fans := { s.fans with blowerDuty := t.fans.blowerDuty }, drive := t.drive, link := t.link } ∧
      t.climate.effectiveSupply = level ∧
      ∀ st, t.entry st = { s.entry st with overrun := (t.entry st).overrun }

/-- In every allocation the blower flow is at most the available flow, which is at most the blower's maximum; the duty is
0 or lies from 150 to 1000; and no zone is granted more than it asks (R78, R80). What an allocation finds for a zone: the
demand, the governing record's or a synthetic one (R71, R72); the zone temperature with its substitutes (R86, R87); the
discharge and blend targets by the deck temperatures (R88 to R93); heating and cooling hard (R90); the level, the cold-engine
limit and the request, 0 under a FAULTED outlet damper (R73, R74); and whether it asks for cooling and for heat (R98, R99). -/
def Obligations.GrantsStayWithinTheAvailableFlow : Prop :=
  (∀ s t : State, s.modes.mode = .run → exec .allocation s = .next t →
    t.climate.blowerFlow ≤ t.climate.availableFlow ∧ t.climate.availableFlow ≤ s.store.live.bmax ∧
    (t.fans.blowerDuty = 0 ∨ (150 ≤ t.fans.blowerDuty ∧ t.fans.blowerDuty ≤ 1000)) ∧
    ∀ z : Zone, s.store.live.zonePresent z = true →
      t.climate.zones[z.val].grantedFlow ≤ (s.plan z).requested) ∧
  (∀ (s : State) (z : Zone),
    let l := s.store.live
    let p := s.plan z
    let healthy := fun c : ChannelId => if (s.channel c).condition = .valid then (s.channel c).filtered else none
    let cold := healthy 8
    let hot := healthy 9
    let governs := fun (t : Target) (n : Slot) (r : Record) => (s.list t).head? = some n ∧ s.record n = some r
    let served := fun k : Kind => ∃ n r, p.demand = .record n r ∧ r.kind = k
    let setpoint := fun v : Int => (p.demand = .synthetic ∧ v = l.cabSetpoint) ∨
      ∃ n r, p.demand = .record n r ∧ r.kind = .comfort ∧ v = ((r.value.getD 0 : Nat) : Int)
    let spread := fun c h : Int => cold = some c ∧ hot = some h ∧ 50 ≤ h - c
    (l.zones[z.val].channel < 16 → (zoneChannel l z).val = l.zones[z.val].channel) ∧
    (∀ n r, governs (zoneTarget z) n r → p.demand = .record n r) ∧
    (s.list (zoneTarget z) = [] →
      (z ≠ 0 → (∃ n r, governs 8 n r ∧ r.kind = .purge) → p.demand = .synthetic) ∧
      (z = 0 ∨ (∀ n r, governs 8 n r → r.kind ≠ .purge) → p.demand = .none)) ∧
    (∀ x, healthy (zoneChannel l z) = some x → p.tZone = some x) ∧
    (∀ chans : List ChannelId, healthy (zoneChannel l z) = none → chans.Nodup →
      (∀ c, c ∈ chans ↔ ∃ y : Zone, y ≠ 0 ∧ l.zonePresent y = true ∧ zoneChannel l y = c) →
      let seen := chans.filterMap healthy
      (seen ≠ [] → p.tZone = some (seen.sum.tdiv (seen.length : Int))) ∧
      (seen = [] → ∀ v, setpoint v → p.tZone = some v) ∧
      (seen = [] → (∀ v, ¬ setpoint v) → p.tZone = none)) ∧
    (p.demand = .none → p.tDis = .notSet ∧ p.blend = none ∧ p.level = 0) ∧
    (served .rehab → p.blend = some 0 ∧ p.tDis = match cold with | some x => .known x | none => .unknown) ∧
    (served .defrost → p.blend = some 1000 ∧ p.tDis = match hot with | some x => .known x | none => .unknown) ∧
    (∀ v, setpoint v → ∃ T, p.tZone = some T ∧
      let raw := v + ((l.zones[z.val].gain : Int) * (v - T)).tdiv 10
      (∀ c h, spread c h →
        let d := if raw < c then c else if h < raw then h else raw
        p.tDis = .known d ∧ p.blend = some ((2 * (1000 * (d - c)) + (h - c)) / (2 * (h - c))).toNat) ∧
      ((∀ c h, ¬ spread c h) →
        p.tDis = .known (if raw < -400 then -400 else if 1200 < raw then 1200 else raw) ∧ p.blend = none) ∧
      (∀ n r, p.demand = .record n r → r.level.getD 0 = 0 →
        let m := (s.config r.station).maxLevel
        let auto := 2 + (v - T).natAbs / 15
        p.level = if auto < min 2 m then min 2 m else if min 8 m < auto then min 8 m else auto)) ∧
    (p.heating = true ↔ ∃ d T, p.tDis = .known d ∧ p.tZone = some T ∧ T < d) ∧
    (p.cooling = true ↔ ∃ d T, p.tDis = .known d ∧ p.tZone = some T ∧ d < T - 10) ∧
    (p.demand = .synthetic → p.level = 5) ∧
    (∀ n r, p.demand = .record n r → r.kind ≠ .comfort ∨ r.level.getD 0 ≠ 0 → p.level = r.level.getD 0) ∧
    (let limited := (p.demand = .synthetic ∨ served .comfort) ∧ p.heating = true ∧ ∀ x, hot = some x → x < 300
     (limited → p.used = min p.level 2) ∧ (¬ limited → p.used = p.level)) ∧
    p.full = p.level * l.zones[z.val].flowPerLevel ∧
    p.requested = (if (s.drive.act (outletOf z)).state = .faulted then 0 else p.used * l.zones[z.val].flowPerLevel) ∧
    (p.contributes = true ↔ served .rehab ∨ served .defrost ∨
      ((p.demand = .synthetic ∨ served .comfort) ∧ p.cooling = true)) ∧
    (p.wantsHeat = true ↔ served .defrost ∨ ((p.demand = .synthetic ∨ served .comfort) ∧
      ((∃ b, p.blend = some b ∧ 0 < b) ∨ (p.blend = none ∧ p.heating = true)))))

/-- The sharing of the available flow (R75, R76, R77). The classes 1, 2 and 3, in this order, each share what those before it
have left, over exactly the zones whose demand is of the class and whose request is above 0; every other zone has grant 0. One
class shared out of what remains: where the requests fit, each is granted whole and what remains falls by their sum; where they
do not, nothing remains, the grants add up to what was there, each is the floor of its proportional share or one more, and the
ones go by the greater remainder, and among equal remainders to the lower zone. -/
def Obligations.SharedClassGoesByRemainders : Prop :=
  (∀ (R : Nat) (reqs : List (Zone × Nat)), (reqs.map (fun p => p.1)).Nodup →
    let D := (reqs.map (fun p => p.2)).sum
    let out := shareClass R reqs
    (D ≤ R → out = (reqs, R - D)) ∧
    (R < D → out.2 = 0 ∧ out.1.map (fun p => p.1) = reqs.map (fun p => p.1) ∧ (out.1.map (fun p => p.2)).sum = R ∧
      (∀ p ∈ reqs, grantOf out.1 p.1 = p.2 * R / D ∨ grantOf out.1 p.1 = p.2 * R / D + 1) ∧
      ∀ p ∈ reqs, ∀ q ∈ reqs, grantOf out.1 p.1 = p.2 * R / D + 1 → grantOf out.1 q.1 = q.2 * R / D →
        q.2 * R % D < p.2 * R % D ∨ (q.2 * R % D = p.2 * R % D ∧ p.1 < q.1))) ∧
  (∀ (A : Nat) (plans : List (Zone × ZonePlan)), (plans.map (fun p => p.1)).Nodup →
    let classOf := fun p : ZonePlan => match p.demand with
      | .none => 0
      | .synthetic => 3
      | .record _ r => match r.kind with
        | .defrost => 1 | .seal => 1 | .rehab => 2 | .purge => 2 | .comfort => 3 | .fresh => 3
    let reqs := fun k : Nat => (plans.filter (fun p => decide (classOf p.2 = k ∧ 0 < p.2.requested))).map
      (fun p => (p.1, p.2.requested))
    let one := shareClass A (reqs 1)
    let two := shareClass one.2 (reqs 2)
    let three := shareClass two.2 (reqs 3)
    (∀ p ∈ plans, grantOf (shareFlow A plans) p.1 =
      if p.2.requested = 0 then 0
      else match classOf p.2 with
        | 1 => grantOf one.1 p.1
        | 2 => grantOf two.1 p.1
        | 3 => grantOf three.1 p.1
        | _ => 0) ∧
    ∀ z, z ∉ plans.map (fun p => p.1) → grantOf (shareFlow A plans) z = 0) ∧
  (∀ grants : List (Zone × Nat), (grants.map (fun p => p.1)).Nodup →
    (∀ p ∈ grants, grantOf grants p.1 = p.2) ∧ ∀ z, z ∉ grants.map (fun p => p.1) → grantOf grants z = 0)

/-! ## The clutch control -/

/-- The clutch's own events (R109, R112, R113, R114): the guard expiry in GUARD goes to LOCKED, ON or OFF by the lockouts
and the request, and elsewhere only stops the timer; the minimum-on expiry releases an ON clutch whose request is gone; the
switch opening holds PRESSURE and stops the hold, its closing starts the hold, and the hold's expiry clears PRESSURE. An
expiry without its timer, and a level the switch has, change nothing (log 2, log 10). -/
def Obligations.ClutchFollowsTimersAndPressure : Prop :=
  ∀ s : State,
    let c := s.coolant
    (exec .guardTimerExpiry s = .next { s with coolant :=
      if c.guardTimer.isSome = true then
        match c.clutch with
        | .guard =>
          if c.lockouts.any = true then { c with guardTimer := none, clutch := .locked }
          else if c.cooling = true then { c with guardTimer := none, clutch := .on, minOnTimer := some 10000 }
          else { c with guardTimer := none, clutch := .off }
        | .off => { c with guardTimer := none }
        | .on => { c with guardTimer := none }
        | .locked => { c with guardTimer := none }
      else c }) ∧
    (exec .minimumOnTimerExpiry s = .next { s with coolant :=
      if c.minOnTimer.isSome = true then
        if c.clutch = .on ∧ c.cooling = false then
          { c with clutch := .guard, guardTimer := some 30000, minOnTimer := none }
        else { c with minOnTimer := none }
      else c }) ∧
    (∀ isOpen, exec (.highPressureSwitchChange isOpen) s = .next (
      if s.pins.pressureOpen = isOpen then s
      else { s with
        pins := { s.pins with pressureOpen := isOpen }
        coolant := if isOpen = true
          then { c with pressureHold := none }.judge { c.lockouts with pressure := true }
          else { c with pressureHold := some 60000 } })) ∧
    (exec .pressureHoldExpiry s = .next { s with coolant :=
      if c.pressureHold.isSome = true then
        if s.pins.pressureOpen = true then { c with pressureHold := none }
        else { c with pressureHold := none }.judge { c.lockouts with pressure := false }
      else c })

/-! ## The air quality monitor and the intake controller -/

/-- The monitor's timers (R122, R123, R124, R125, R126, R127). The dwell expiry in SUSPECT enters CONTAMINATED; in HOMING and RUN
this shuts the intake door at once and leaves slot 38 live, and in HOMING the door's target can complete homing (R184, log 18).
The clear-hold expiry enters CLEAR and retires slot 38. Each change of the state first sends one AIR notice to each
station that is PRESENT or SILENT and whose mask holds AIR, in ascending order, each queued or dropped on its own (R56); nothing
else changes. The cab clear-hold expiry lowers CAB_HIGH and retires slot 39, without a notice. A timer that is stopped does not
expire (log 2). -/
def Obligations.MonitorTimersMoveTheState : Prop :=
  ∀ s : State,
    let code : Contamination → Nat := fun c => match c with | .clear => 0 | .suspect => 1 | .contaminated => 2
    let notices := fun (new old : Contamination) =>
      ((List.finRange 16).filter (fun st => decide (st ≠ 0) && decide ((s.entry st).presence ≠ .unseen) &&
          (s.entry st).mask.getLsbD 3)).map
        (fun st => ({ station := st, data := #v[4, 0, BitVec.ofNat 8 (code new), BitVec.ofNat 8 (code old), 0, 0, 0, 0] }
          : TxFrame))
    let roomy := s.link.state = .online ∧ s.link.tx.length + s.link.reserved ≤ 2
    (s.air.dwellTimer.isSome = true → s.air.contamination = .suspect →
      ∃ t, exec .dwellTimerExpiry s = .next t ∧
        t.air = { s.air with dwellTimer := none, contamination := .contaminated } ∧
        (s.modes.mode = .start ∨ s.modes.mode = .parked →
          t = { s with air := t.air, link := t.link, register := { s.register with entries := t.register.entries } } ∧
          (roomy → t.link = { s.link with tx := s.link.tx ++ notices .contaminated .suspect })) ∧
        (s.modes.mode = .run →
          t = { s with table := t.table, register := { s.register with entries := t.register.entries }, air := t.air,
                       intake := { s.intake with doorTarget := 0 }, drive := t.drive, link := t.link } ∧
          t.drive = s.drive.handTarget intakeDoor 0 ∧
          (roomy → (s.link.tx ++ notices .contaminated .suspect : List TxFrame) <+: t.link.tx) ∧
          match s.record sealSlot with
          | some r => t.table = s.table ∧ t.record sealSlot = some r
          | none => (∃ r, t.record sealSlot = some r ∧ r.station = 0 ∧ r.kind = .seal ∧ r.target = intakeTarget ∧
              r.state = .pending ∧ r.postSeq = s.table.postSeq) ∧
            t.list intakeTarget = insertAfterLast (s.classAtMost 1) sealSlot (s.list intakeTarget)) ∧
        (s.modes.mode = .homing → t.intake.doorTarget = 0 ∧
          (t.modes.mode ≠ .parked → (t.record sealSlot).isSome = true)) ∧
        ∃ u : State, u.ContaminationMoves { s with air := { s.air with dwellTimer := none } } .contaminated ∧
          t = u.homingCheck) ∧
    (s.air.clearHoldTimer.isSome = true → s.air.contamination = .contaminated →
      ∃ t, exec .clearHoldExpiry s = .next t ∧
        t = { s with table := { s.table with slots := t.table.slots, lists := t.table.lists },
                     register := { s.register with entries := t.register.entries },
                     air := { s.air with clearHoldTimer := none, contamination := .clear }, link := t.link } ∧
        t.record sealSlot = none ∧ (∀ n, n ≠ sealSlot → t.record n = s.record n) ∧
        (roomy → t.link = { s.link with tx := s.link.tx ++ notices .clear .contaminated }) ∧
        t.ContaminationMoves { s with air := { s.air with clearHoldTimer := none } } .clear) ∧
    (s.air.cabClearTimer.isSome = true →
      ∃ t, exec .cabClearHoldExpiry s = .next t ∧
        t = { s with table := { s.table with slots := t.table.slots, lists := t.table.lists },
                     register := { s.register with entries := t.register.entries },
                     air := { s.air with cabHigh := false, cabClearTimer := none } } ∧
        t.record purgeSlot = none ∧ (∀ n, n ≠ purgeSlot → t.record n = s.record n) ∧
        (∀ r, s.record purgeSlot = some r → (t.entry r.station).quota = (s.entry r.station).quota + 1 ∧
          t.list r.target = (s.list r.target).filter (fun n => n != purgeSlot))) ∧
    (s.air.dwellTimer = none → s.homingOpen → exec .dwellTimerExpiry s = .next s) ∧
    (s.air.clearHoldTimer = none → exec .clearHoldExpiry s = .next s) ∧
    (s.air.cabClearTimer = none → exec .cabClearHoldExpiry s = .next s)

/-- An intake computation (R128 to R134, R33). Outside RUN only the period begins again. In RUN the door target is what the
first intake record asks, bounded by the contamination state, and goes to A0; the first record becomes BLOCKED, LIMITED or
ACTIVE and those behind it QUEUED, with a STATE notice for each whose state changes, in list order (R34); a SEAL pressurizes, with the stepped duty by the first case that applies; the fan takes
the output duty. -/
def Obligations.IntakeComputationSetsDoorAndFan : Prop :=
  ∀ s : State,
    (s.modes.mode ≠ .run →
      exec .intakeComputation s = .next { s with intake := { s.intake with intakeTimer := some 1000 } }) ∧
    (s.modes.mode = .run → (s.list intakeTarget).Nodup → ∃ t, exec .intakeComputation s = .next t ∧
      t = { s with table := { s.table with slots := t.table.slots }
                   register := { s.register with entries := t.register.entries }
                   intake := t.intake, fans := { s.fans with fanDuty := t.fans.fanDuty }, drive := t.drive
                   link := t.link } ∧
      t.intake = { doorTarget := t.intake.doorTarget, pressurizing := t.intake.pressurizing,
                   steppedDuty := t.intake.steppedDuty, outputDuty := t.intake.outputDuty,
                   boostTimer := s.intake.boostTimer, intakeTimer := some 1000 } ∧
      let gov := match s.list intakeTarget with
        | [] => none
        | n :: _ => s.record n
      let asked := match gov with
        | none => s.store.live.defaultFresh
        | some r => if r.kind = .seal then 0 else if r.kind = .purge then 1000 else r.value.getD 0
      let boost := (∃ d : Fin 6, s.pins.doorsOpen[d.val] = true) ∨ s.intake.boostTimer.isSome = true
      let capped := fun duty : Nat => if s.climate.effectiveSupply = 3 ∧ 600 < duty then 600 else duty
      t.intake.doorTarget = (match s.air.contamination with
        | .clear => asked
        | .suspect => if 500 < asked then 500 else asked
        | .contaminated => 0) ∧
      t.drive = s.drive.handTarget intakeDoor t.intake.doorTarget ∧
      (∀ n rest, s.list intakeTarget = n :: rest →
        t.record n = (s.record n).map (fun r => { r with state :=
          if (s.drive.act intakeDoor).state = .faulted then .blocked
          else if s.air.contamination = .suspect ∧ 500 < asked then .limited else .active }) ∧
        ∀ m ∈ rest, t.record m = (s.record m).map (fun r => { r with state := .queued })) ∧
      (∀ m, m ∉ s.list intakeTarget → t.record m = s.record m) ∧
      t.AfterNotices s ((s.list intakeTarget).flatMap (t.stateChange s)) ∧
      (∀ st, t.entry st = { s.entry st with overrun := (t.entry st).overrun }) ∧
      t.fans.fanDuty = t.intake.outputDuty ∧
      (gov.any (fun r => r.kind == .seal) = false →
        t.intake.pressurizing = false ∧ t.intake.steppedDuty = none ∧ t.intake.outputDuty = 0) ∧
      (gov.any (fun r => r.kind == .seal) = true →
        t.intake.pressurizing = true ∧
        ∃ duty, t.intake.steppedDuty = some duty ∧
          t.intake.outputDuty = (if boost then capped 1000 else capped duty) ∧
          match s.healthy 14 with
          | none => duty = 800
          | some dp =>
            (s.intake.pressurizing = false → duty = 500) ∧
            (∀ old, s.intake.pressurizing = true → s.intake.steppedDuty = some old →
              (boost → duty = old) ∧
              (¬ boost → 200 ≤ old → old ≤ 1000 →
                duty = if dp < s.store.live.dpTarget - 10 then min 1000 (old + 50)
                       else if s.store.live.dpTarget + 10 < dp then max 200 (old - 50)
                       else old))))

/-- Door boost and the blower's pause (R131, R134, R160). A door that opens stops the boost timer, and where boost was not in
force it hands the filter fan 1000, or 600 at supply level 3, while pressurizing in RUN; the closing of the last open door
starts the boost timer at 5 s; its expiry hands the stepped duty again. An over-current assertion, the
change of the input from clear to asserted, starts the pause at 10 s, and its expiry ends it unless the input still reads
asserted; while it runs the blower stands (R159). A level that an input has, and an expiry without its timer, change nothing (log 2, log 10); the release of the
over-current input only changes its level (log 9). -/
def Obligations.DoorBoostAndBlowerPauseRun : Prop :=
  ∀ s : State,
    let capped := fun duty : Nat => if s.climate.effectiveSupply = 3 ∧ 600 < duty then 600 else duty
    let driving := s.modes.mode = .run ∧ s.intake.pressurizing = true
    let opened := fun d : Fin 6 => s.pins.doorsOpen[d.val] = true
    let pinsWith := fun (d : Fin 6) (b : Bool) => { s.pins with doorsOpen := s.pins.doorsOpen.set d.val b }
    (∀ d b, s.pins.doorsOpen[d.val] = b → exec (.doorSwitchChange d b) s = .next s) ∧
    (∀ d, ¬ opened d → exec (.doorSwitchChange d true) s = .next { s with
      pins := pinsWith d true
      intake := { s.intake with
        boostTimer := none
        outputDuty := if driving ∧ (∀ x, ¬ opened x) ∧ s.intake.boostTimer = none then capped 1000
                      else s.intake.outputDuty }
      fans := { s.fans with
        fanDuty := if driving ∧ (∀ x, ¬ opened x) ∧ s.intake.boostTimer = none then capped 1000
                   else s.fans.fanDuty } }) ∧
    (∀ d, opened d → exec (.doorSwitchChange d false) s = .next { s with
      pins := pinsWith d false
      intake := { s.intake with
        boostTimer := if ∃ x, x ≠ d ∧ opened x then s.intake.boostTimer else some 5000 } }) ∧
    (∀ duty, s.intake.boostTimer.isSome = true → (∀ x, ¬ opened x) → s.intake.steppedDuty = some duty →
      exec .boostTimerExpiry s = .next { s with
        intake := { s.intake with
          boostTimer := none
          outputDuty := if driving then capped duty else s.intake.outputDuty }
        fans := { s.fans with fanDuty := if driving then capped duty else s.fans.fanDuty } }) ∧
    (s.intake.boostTimer.isSome = true → s.intake.pressurizing = false →
      exec .boostTimerExpiry s = .next { s with intake := { s.intake with boostTimer := none } }) ∧
    (s.intake.boostTimer = none → exec .boostTimerExpiry s = .next s) ∧
    (∀ asserted, exec (.overCurrentAssertion asserted) s = .next { s with
      pins := { s.pins with overCurrent := asserted }
      fans := { s.fans with
        pauseTimer := if asserted = true ∧ s.pins.overCurrent = false then some 10000 else s.fans.pauseTimer } }) ∧
    (exec .pauseTimerExpiry s = .next { s with fans := { s.fans with
      pauseTimer := if s.fans.pauseTimer.isSome = true ∧ s.pins.overCurrent = true then some 10000 else none } }) ∧
    s.fans.blowerRuns = (if s.fans.pauseTimer.isSome = true then 0 else s.fans.blowerDuty)

/-! ## The sensor scanner -/

/-- A scan and its conversions (R140 to R144): the scan timer's expiry begins a scan of the enabled channels in ascending
number; a conversion judges its raw value against 40 to 4055, scales it, filters it, and moves the channel's condition and
counts as R141's table says; no other channel changes. With no scan in progress nothing is converted (log 2). -/
def Obligations.ConversionsJudgeScaleAndFilter : Prop :=
  ∀ s : State,
    (exec .scanTimerExpiry s = .next { s with scanner := { s.scanner with
      scan := (List.finRange 16).filter (fun c => s.store.live.enabled c)
      scanTimer := some s.store.live.scanPeriod } }) ∧
    (∀ raw, s.scanner.scan = [] → exec (.conversionComplete raw) s = .next s) ∧
    (∀ (raw : BitVec 12) (c : ChannelId) (rest : List ChannelId), s.scanner.scan = c :: rest →
      ∃ t, exec (.conversionComplete raw) s = .next t ∧
        t.scanner = { s.scanner with scan := rest, channels := t.scanner.channels } ∧
        (∀ x, x ≠ c → t.channel x = s.channel x) ∧
        let ch := s.channel c
        let r := raw.toNat
        let good := 40 ≤ r ∧ r ≤ 4055
        let k : Int := if c.val ≤ 10 then 4 else if c.val ≤ 14 then 2 else 1
        let moved := fun (x : Int) => match ch.filtered with
          | none => x
          | some v => v + (x - v).tdiv k
        ∀ x : Int,
          (c.val ≤ 10 → ∃ a b, s.store.live.thermistor[r / 512]? = some a ∧
            s.store.live.thermistor[r / 512 + 1]? = some b ∧ x = a + ((b - a) * ((r % 512 : Nat) : Int)).tdiv 512) →
          (10 < c.val → ∃ sc, s.store.live.scaling[c.val - 11]? = some sc ∧
            x = sc.lo + (2 * ((sc.hi - sc.lo) * (r : Int)) + 4095) / 8190) →
          t.channel c = match ch.condition with
            | .absent => ch
            | .awaiting =>
              if good then { ch with condition := .valid, filtered := some (moved x), outOfRange := 0 }
              else if ch.outOfRange + 1 < 3 then { ch with outOfRange := ch.outOfRange + 1 }
              else { ch with condition := .faulted, outOfRange := 3, recovery := 0 }
            | .valid =>
              if good then { ch with filtered := some (moved x), outOfRange := 0 }
              else if ch.outOfRange + 1 < 3 then { ch with outOfRange := ch.outOfRange + 1 }
              else { ch with condition := .faulted, outOfRange := 3, recovery := 0 }
            | .faulted =>
              if good then
                if ch.recovery + 1 < 10 then { ch with recovery := ch.recovery + 1 }
                else { condition := .valid, filtered := some x, outOfRange := 0, recovery := 0 }
              else { ch with recovery := 0 })

/-- What an arrival does at the block it goes to (R145, R66, R67, R106, R107, R108), where no homing waits to complete:
channel 8 is judged for SENSOR and FREEZE, channel 10 for AMBIENT, with a faulted one counted as 100, and channel 15 gives
the voltage level, 0 while faulted; the temperatures that are read at the allocations and channel 14 change nothing but
their channel. -/
def Obligations.ArrivalsActOnTheirBlocks : Prop :=
  ∀ (s : State) (raw : BitVec 12) (c : ChannelId) (rest : List ChannelId), s.scanner.scan = c :: rest → s.homingOpen →
    c.val < 11 ∨ 13 < c.val → ∃ t, exec (.conversionComplete raw) s = .next t ∧
      let faulted := (t.channel c).condition = .faulted
      let l := s.coolant.lockouts
      let held := fun (old : Bool) (low high v : Int) => if v < low then true else if high ≤ v then false else old
      (c = 8 → t = { s with scanner := t.scanner, coolant := s.coolant.judge (
        match t.healthy 8 with
        | some v => { l with sensor := false, freeze := held l.freeze 10 40 v }
        | none => { l with sensor := true }) }) ∧
      (c = 10 → t = { s with scanner := t.scanner, coolant := s.coolant.judge (
        match t.healthy 10 with
        | some v => { l with ambient := held l.ambient 20 40 v }
        | none => if faulted then { l with ambient := false } else l) }) ∧
      (c = 15 → t = { s with scanner := t.scanner, climate := { s.climate with
          voltageLevel := t.climate.voltageLevel } } ∧
        let now := s.climate.voltageLevel
        let level := t.climate.voltageLevel
        match t.healthy 15 with
        | none => level = if faulted then 0 else now
        | some v =>
          let entry := if v < 110 then 3 else if v < 115 then 2 else if v < 120 then 1 else 0
          (now < entry → level = entry) ∧
          (entry ≤ now → level ≤ now ∧ (level = 0 ∨ (level ≤ 3 ∧ v < 127 - 5 * (level : Int))) ∧
            ∀ n : Nat, 1 ≤ n → n ≤ 3 → n ≤ now → v < 127 - 5 * (n : Int) → n ≤ level)) ∧
      (c ≠ 8 → c ≠ 10 → c ≠ 15 → t = { s with scanner := t.scanner })

/-- The gas arrivals (R119, R120, R121, R124, R125, R126, R127). An arrival of channel 11 or 12 that is valid or faulted becomes
its judged reading, the suspect threshold where it is faulted; evaluation starts once both are known, and the state and its
timers then move by the alarm and suspect conditions. A change of the state sends the AIR notices (R56); then an entry into
CONTAMINATED in HOMING and RUN shuts the intake door and leaves slot 38 live, and an entry into CLEAR leaves it free. An arrival
of channel 13 raises CAB_HIGH, with slot 39 live in HOMING and RUN, or starts and stops the cab clear-hold. One that is neither
valid nor faulted moves nothing. Nothing else changes, but that homing completes where the door's target settles the last
actuator (R184, log 18). -/
def Obligations.GasArrivalsMoveTheMonitor : Prop :=
  ∀ (s : State) (raw : BitVec 12) (c : ChannelId) (rest : List ChannelId), s.scanner.scan = c :: rest →
    c = 11 ∨ c = 12 ∨ c = 13 → ∃ t, exec (.conversionComplete raw) s = .next t ∧
      let l := s.store.live
      let m := s.air
      let faulted := (t.channel c).condition = .faulted
      let reading := fun suspect : Nat => if faulted then some (suspect : Int) else t.healthy c
      let at_ := fun (r : Option Int) (n : Nat) => ∃ v, r = some v ∧ (n : Int) ≤ v
      let co := if c = 11 ∧ (reading l.coSuspect).isSome = true then reading l.coSuspect else m.judgedCo
      let pm := if c = 12 ∧ (reading l.particulateSuspect).isSome = true then reading l.particulateSuspect
        else m.judgedParticle
      let alarm := at_ co l.coAlarm ∨ at_ pm l.particulateAlarm
      let suspect := at_ co l.coSuspect ∨ at_ pm l.particulateSuspect
      let read := { m with judgedCo := co, judgedParticle := pm }
      (c = 11 ∨ c = 12 → (reading 0).isSome = true →
        (m.evaluating = false → co.isNone = true ∨ pm.isNone = true → t.air = read) ∧
        (m.evaluating = false → co.isSome = true → pm.isSome = true → t.air = { read with
          evaluating := true
          contamination := if alarm then .contaminated else if suspect then m.contamination else .clear
          dwellTimer := if ¬ alarm ∧ suspect then some (1000 * l.suspectDwell) else m.dwellTimer }) ∧
        (m.evaluating = true → t.air = (match m.contamination with
          | .clear =>
            if alarm then { read with contamination := .contaminated }
            else if suspect then { read with contamination := .suspect, dwellTimer := some (1000 * l.suspectDwell) }
            else read
          | .suspect =>
            if alarm then { read with contamination := .contaminated, dwellTimer := none }
            else if suspect then read
            else { read with contamination := .clear, dwellTimer := none }
          | .contaminated =>
            if alarm ∨ suspect then { read with clearHoldTimer := none }
            else if m.clearHoldTimer.isSome = true then read
            else { read with clearHoldTimer := some (1000 * l.clearHold) })) ∧
        (m.contamination ≠ .contaminated → t.air.contamination = .contaminated → s.serving = true →
          t.intake.doorTarget = 0 ∧ (t.modes.mode ≠ .parked → (t.record sealSlot).isSome = true)) ∧
        (m.contamination ≠ .clear → t.air.contamination = .clear → t.record sealSlot = none)) ∧
      (c = 11 ∨ c = 12 → (reading 0).isSome = false → t.air = m) ∧
      (c = 13 → faulted → t.air = { m with cabHigh := false, cabClearTimer := none }) ∧
      (c = 13 → ¬ faulted → t.air = match t.healthy 13 with
        | none => m
        | some v =>
          if m.cabHigh = false then { m with cabHigh := decide ((l.cabHigh : Int) ≤ v) }
          else if v < (l.cabClear : Int) then
            if m.cabClearTimer.isSome = true then m else { m with cabClearTimer := some (1000 * l.cabClearHold) }
          else { m with cabClearTimer := none }) ∧
      (c = 13 → m.cabHigh = false → t.air.cabHigh = true → s.serving = true → t.modes.mode ≠ .parked →
        (t.record purgeSlot).isSome = true) ∧
      (let serving := s.modes.mode = .homing ∨ s.modes.mode = .run
       let read := { s with scanner := t.scanner, air := { t.air with contamination := m.contamination } }
       ∃ u : State, t = u.homingCheck ∧
        (c ≠ 13 → t.air.contamination = m.contamination → u = read) ∧
        (c ≠ 13 → t.air.contamination ≠ m.contamination → u.ContaminationMoves read t.air.contamination) ∧
        (c = 13 → u = if m.cabHigh = false ∧ t.air.cabHigh = true ∧ serving
          then read.monitorPost 39 .purge (some (60 * l.purgeMinutes)) else read) ∧
        (c = 13 → t.air.contamination = m.contamination))

/-! ## The actuator drive -/

/-- A target is taken by the actuator's state (R155, R150, R153): kept as the pending target before and while homing;
ignored by a READY actuator within its deadband and by a FAULTED one; otherwise followed, with a free channel or a place at
the tail of the queue; a waiting actuator whose target is where it stands leaves the queue, and a moving one there is
READY, and its channel goes to the oldest waiting. The channels held are the actuators that are HOMING, REHOMING or MOVING
(R151). -/
def Obligations.TargetsAreTakenByState : Prop :=
  ∀ (d : ActuatorDrive) (a : ActuatorId) (t T n : Nat),
    d.busy = ((List.finRange 17).filter (fun b => decide ((d.act b).state = .homing ∨ (d.act b).state = .rehoming ∨
      (d.act b).state = .moving))).length ∧
    let x := d.act a
    let goal := (2 * (T * t) + 1000) / 2000
    (x.state = .unhomed ∨ x.state = .homing ∨ x.state = .rehoming →
      d.handTarget a t = d.setAct a { x with target := t }) ∧
    (x.state = .faulted → d.handTarget a t = d) ∧
    (x.state = .ready → a ∉ d.queue →
      (t ≤ x.reported + 5 → x.reported ≤ t + 5 → d.handTarget a t = d) ∧
      (x.reported + 5 < t ∨ t + 5 < x.reported →
        d.handTarget a t = if d.busy < 6 then d.setAct a { x with target := t, state := .moving }
          else { (d.setAct a { x with target := t }) with queue := d.queue ++ [a] })) ∧
    (x.travel = some T → x.step = some n →
      (x.state = .ready → a ∈ d.queue →
        d.handTarget a t = if goal = n then { (d.setAct a { x with target := t }) with queue := d.queue.filter (· != a) }
          else d.setAct a { x with target := t }) ∧
      (x.state = .moving →
        d.handTarget a t = if goal = n
          then (d.setAct a { x with target := t, state := .ready, phase := .none, rehomeMark := false }).handOver
          else d.setAct a { x with target := t })) ∧
    (d.queue = [] → d.handOver = d) ∧
    ∀ b rest, d.queue = b :: rest →
      d.handOver.queue = rest ∧ (∀ y, y ≠ b → d.handOver.act y = d.act y) ∧
      ((d.act b).state = .unhomed →
        d.handOver.act b = { d.act b with state := .homing, phase := .closing, step := none, count := 0 }) ∧
      ((d.act b).state = .ready → d.handOver.act b = { d.act b with state := .moving })

/-- The events of a present actuator (R150, R152, R153, R155, R156, R157, R184): each changes the drive as given here, and
homing completes where that settles the last one. A step counts in a phase of a homing, and in a move goes one step towards
the target and reports the position anew; a completed move is READY; a stall ends the closing phase at 0 and the opening
phase with the travel measured, or with the fault TRAVEL outside the limits; 5000 closing steps without a stall, and a
count past the upper limit, are faults; a stall in a move begins a rehoming, or is the fault STALL when its mark is set. An
actuator that enters READY or FAULTED frees its channel. An absent actuator is not driven (R149). Choices of the model: the
phase is none after a fault (log 28); the step position stays 0 through the opening phase (log 16); an event that the
actuator's state gives no occasion for changes nothing (log 2). -/
def Obligations.ActuatorEventsDriveHomingAndMoves : Prop :=
  ∀ (s : State) (a : ActuatorId),
    let x := s.drive.act a
    let d := s.drive
    let low := s.store.live.travelLow
    let high := s.store.live.travelHigh
    let free := fun y : Actuator => ({ s with drive := (d.setAct a y).handOver } : State).homingCheck
    let keep := fun y : Actuator => ({ s with drive := d.setAct a y } : State).homingCheck
    let homing := x.state = .homing ∨ x.state = .rehoming
    let goal := fun T : Nat => (2 * (T * x.target) + 1000) / 2000
    (s.actPresent a = false → ∀ c ∈ [Instr.actuatorStep a, .moveComplete a, .homingStall a, .homingNoStop a,
      .homingTravelOverrun a, .stall a], exec c s = .next s) ∧
    (s.actPresent a = true →
      (homing → x.phase = .closing →
        (x.count < 5000 → exec (.actuatorStep a) s = .next { s with drive := d.setAct a { x with count := x.count + 1 } }) ∧
        (x.count = 5000 → exec (.homingNoStop a) s =
          .next (free { x with state := .faulted, phase := .none, reason := .noStop })) ∧
        exec (.homingStall a) s =
          .next (keep { x with phase := .opening, step := some 0, reported := 0, count := 0 })) ∧
      (homing → x.phase = .opening →
        (x.count ≤ high → exec (.actuatorStep a) s = .next { s with drive := d.setAct a { x with count := x.count + 1 } }) ∧
        (high < x.count → exec (.homingTravelOverrun a) s =
          .next (free { x with state := .faulted, phase := .none, reason := .travel })) ∧
        exec (.homingStall a) s = .next (
          if x.count < low ∨ high < x.count then free { x with state := .faulted, phase := .none, reason := .travel }
          else if goal x.count = x.count then
            free { x with state := .ready, phase := .none, travel := some x.count, step := some x.count,
                          reported := 1000, rehomeMark := false }
          else keep { x with state := .moving, phase := .none, travel := some x.count, step := some x.count,
                             reported := 1000 })) ∧
      (∀ T n, x.state = .moving → x.travel = some T → x.step = some n →
        (n ≠ goal T →
          (let n' := if n < goal T then n + 1 else n - 1
           let y := { x with step := some n', reported := (2 * (1000 * n') + T) / (2 * T) }
           exec (.actuatorStep a) s = .next { s with drive := d.setAct a y }) ∧
          exec (.stall a) s = .next (
            if x.rehomeMark = true then free { x with state := .faulted, phase := .none, reason := .stall }
            else keep { x with state := .rehoming, phase := .closing, step := none, count := 0, rehomeMark := true })) ∧
        (n = goal T →
          exec (.actuatorStep a) s = .next { s with drive := d.setAct a x } ∧
          exec (.moveComplete a) s = .next (free { x with state := .ready, phase := .none, rehomeMark := false }))) ∧
      (s.homingOpen → x.state = .unhomed ∨ x.state = .ready ∨ x.state = .faulted →
        ∀ c ∈ [Instr.moveComplete a, .homingStall a, .homingNoStop a, .homingTravelOverrun a, .stall a],
          exec c s = .next s))

/-! ## The mode controller -/

/-- The ignition and the completion of homing (R183, R184, R185). A change of the input starts the debounce timer at 500 ms; its
expiry takes the input's level. Off takes HOMING and RUN to PARKED: every record retired, every lock freed, the computers at
rest, both fans at 0, an engaged clutch released and the valve closed, every present actuator handed its park position (R158);
the RETIRE notices, with reason PARKED, go in ascending slot order (R21, R22). On takes PARKED to RUN, or to HOMING with homing
unfinished, where the actuators that need motion take the free channels in ascending number and the rest wait (R153, R154); the
internal records that the monitor calls for are posted (R125, R127; SEAL first, log 17). Otherwise the mode stays. An input level that is no
change (log 10) and an expiry with no timer (log 2) change nothing. Homing completes only in HOMING with every present actuator
READY or FAULTED: the mode enters RUN with the ignition on, with the internal posts and nothing else, and PARKED with it off. The
clauses on the ignition are for a state in which no homing waits to complete. -/
def Obligations.IgnitionMovesTheMode : Prop :=
  (∀ s : State, s.homingOpen →
    let off := s.pins.ignition = false
    let settled := ∀ a, s.actPresent a = true → (s.drive.act a).state ≠ .unhomed ∧ (s.drive.act a).state ≠ .homing
    (∀ b, exec (.ignitionInputChange b) s = .next (
      if s.pins.ignition = b then s
      else { s with pins := { s.pins with ignition := b }, modes := { s.modes with debounce := some 500 } })) ∧
    (s.modes.debounce = none → exec .ignitionDebounceExpiry s = .next s) ∧
    (s.modes.debounce.isSome = true →
      (s.modes.ignition = s.pins.ignition ∨ s.modes.mode = .start ∨ (s.modes.mode = .parked ∧ off) ∨
          (s.modes.mode = .homing ∧ ¬ off) ∨ (s.modes.mode = .run ∧ ¬ off) →
        exec .ignitionDebounceExpiry s = .next { s with
          modes := { mode := s.modes.mode, ignition := s.pins.ignition, debounce := none } }) ∧
      (s.modes.ignition = true → off → s.modes.mode = .homing ∨ s.modes.mode = .run →
        ∃ t, exec .ignitionDebounceExpiry s = .next t ∧
          t.EntersParked { s with modes := { mode := s.modes.mode, ignition := false, debounce := none } }) ∧
      (s.modes.ignition = false → ¬ off → s.modes.mode = .parked →
        ∃ t, exec .ignitionDebounceExpiry s = .next t ∧
          t = { s with table := t.table, register := { s.register with entries := t.register.entries },
                       drive := t.drive, link := t.link, modes := t.modes } ∧
          (settled → t.modes = { mode := .run, ignition := true, debounce := none } ∧ t.drive = s.drive) ∧
          (¬ settled → t.modes = { mode := .homing, ignition := true, debounce := none }) ∧
          (s.air.contamination = .contaminated → (t.record sealSlot).isSome = true) ∧
          (s.air.cabHigh = true → (t.record purgeSlot).isSome = true) ∧
          (s.air.contamination ≠ .contaminated → s.air.cabHigh = false → t.table = s.table ∧ t.link = s.link) ∧
          (settled → t = ({ s with modes := { mode := .run, ignition := true, debounce := none } }).withInternalPosts) ∧
          (¬ settled → s.DriveHomes t.drive ∧ t = ({ s with
            modes := { mode := .homing, ignition := true, debounce := none }, drive := t.drive }).withInternalPosts)))) ∧
  (∀ s : State,
    let settled := ∀ a, s.actPresent a = true → (s.drive.act a).state = .ready ∨ (s.drive.act a).state = .faulted
    (s.modes.mode ≠ .homing ∨ ¬ settled → s.homingCheck = s) ∧
    (s.modes.mode = .homing → settled → s.modes.ignition = true →
      s.homingCheck = ({ s with modes := { s.modes with mode := .run } }).withInternalPosts) ∧
    (s.modes.mode = .homing → settled → s.modes.ignition = false → s.homingCheck.EntersParked s))

/-! ## The invariants -/

/-- Every step keeps the demand table exact, ordered and accounted for (R3, R4, R5, R7, R9, R25, R45). -/
def Obligations.StepsKeepTheTableSound : Prop :=
  ∀ s t : State, s.TableSound → step s = .next t → t.TableSound

/-- Every step keeps the clutch control sound: in particular the clutch is never engaged while a lockout holds or within the
guard time of 30 s after a release or a reset (R105, R106, R109 to R114). -/
def Obligations.StepsKeepTheClutchSound : Prop :=
  ∀ s t : State, s.ClutchSound → step s = .next t → t.ClutchSound

/-- Every step keeps the link sound: both queues within their places, nothing queued while OFFLINE, bus-off only then, and a
restart awaited only while its answer is queued (R164, R165, R166, R169, R170, R182). -/
def Obligations.StepsKeepTheLinkSound : Prop :=
  ∀ s t : State, s.LinkSound → step s = .next t → t.LinkSound

/-- Every step keeps the drive sound: at most six actuators in motion, none in the queue twice, and none waiting while a
channel is free (R149, R151, R153). That an actuator has a homing phase exactly while it is homing rests on the model's choice
of none at a fault (log 28). -/
def Obligations.StepsKeepTheDriveSound : Prop :=
  ∀ s t : State, s.DriveSound → step s = .next t → t.DriveSound

/-- Every step keeps the monitor and the intake controller sound: each timer runs only in the state it belongs to (R118 to
R123, R126, R128, R131 to R134). -/
def Obligations.StepsKeepTheMonitorSound : Prop :=
  ∀ s t : State, s.AirSound → step s = .next t → t.AirSound

/-- Every step keeps a contaminated cab sealed: while CONTAMINATED slot 38 is live in HOMING and RUN and the intake door
target is 0 in RUN (R125, R129). -/
def Obligations.StepsKeepAContaminatedCabSealed : Prop :=
  ∀ s t : State, s.SealSound → step s = .next t → t.SealSound

/-- Every step keeps the plant at rest outside RUN, and the table and the locks empty in START and PARKED (R22, R24, R54,
R84, R100, R115, R116, R135, R159, R161). -/
def Obligations.StepsKeepThePlantAtRest : Prop :=
  ∀ s t : State, s.RestSound → step s = .next t → t.RestSound

/-- `State.reset` is sound in every one of these senses. It is the model's reading of the moment after a reset (log 6), with
a blank store (log 7), the input levels of log 8, and no place reserved and no restart awaited (log 26). -/
def Obligations.ResetIsSound : Prop :=
  State.reset.TableSound ∧ State.reset.ClutchSound ∧ State.reset.LinkSound ∧ State.reset.DriveSound ∧
  State.reset.AirSound ∧ State.reset.SealSound ∧ State.reset.RestSound
end

