-- ==== Sys2Proof/Laws/Crc.lean ====
section
/-! SUPPORT. The laws of the CRC (R178): dividing a byte at once is dividing its bits one by one, the highest first. -/

namespace Sys2Proof.Machine

/-- One bit divided by the generator 0x1021. -/
def crcSerial (c : Word16) (b : Bool) : Word16 := if c.msb ≠ b then (c <<< 1) ^^^ 0x1021#16 else c <<< 1

/-- A bit of the message may be added before or after the shift. -/
theorem crcBit_xor (x y : Word16) : crcBit (x ^^^ y) = crcSerial x y.msb ^^^ (y <<< 1) := by
  unfold crcBit crcSerial
  rw [BitVec.msb_xor, show (x ^^^ y) <<< 1 = x <<< 1 ^^^ y <<< 1 from BitVec.shiftLeft_xor_distrib ..]
  cases x.msb <;> cases y.msb <;> simp <;> ac_rfl

/-- A byte into the CRC is its eight bits, one by one, the highest first. -/
theorem crcByte_serial (c : Word16) (b : Byte) : crcByte c b = ((List.range 8).map b.getMsbD).foldl crcSerial c := by
  unfold crcByte
  simp only [crcBit_xor]
  have h0 : (b.setWidth 16 <<< 8) <<< 1 <<< 1 <<< 1 <<< 1 <<< 1 <<< 1 <<< 1 <<< 1 = 0#16 := by revert b; decide
  have m : ∀ k, k < 8 → ((b.setWidth 16 <<< 8) <<< k).msb = b.getMsbD k := by revert b; decide
  have s : ∀ (x : Word16) (i : Nat), (x <<< i) <<< 1 = x <<< (i + 1) := by intro x i; rw [← BitVec.shiftLeft_add]
  have h : ∀ k, k < 8 → (BitVec.setWidth 16 b <<< (8 + k)).msb = b.getMsbD k := by
    intro k hk; rw [← m k hk, ← BitVec.shiftLeft_add]
  simp only [s] at h0 ⊢
  simp only [h0, BitVec.xor_zero]
  have := h 0; have := h 1; have := h 2; have := h 3; have := h 4; have := h 5; have := h 6; have := h 7
  simp_all [List.range, List.range.loop]

end Sys2Proof.Machine
end

