-- ==== Sys2Proof/Laws/State.lean ====
section
/-! SUPPORT. One lemma per field per named update of the state, true by rfl, so that no proof unfolds an update. -/

namespace Sys2Proof.Machine

variable (s : State)

@[simp] theorem State.setSlot_table (n : Slot) (r : Option Record) :
    (s.setSlot n r).table = { s.table with slots := s.table.slots.set n.val r } := rfl
@[simp] theorem State.setSlot_register (n : Slot) (r : Option Record) :
    (s.setSlot n r).register = s.register := rfl
@[simp] theorem State.setSlot_climate (n : Slot) (r : Option Record) :
    (s.setSlot n r).climate = s.climate := rfl
@[simp] theorem State.setSlot_coolant (n : Slot) (r : Option Record) :
    (s.setSlot n r).coolant = s.coolant := rfl
@[simp] theorem State.setSlot_air (n : Slot) (r : Option Record) :
    (s.setSlot n r).air = s.air := rfl
@[simp] theorem State.setSlot_intake (n : Slot) (r : Option Record) :
    (s.setSlot n r).intake = s.intake := rfl
@[simp] theorem State.setSlot_scanner (n : Slot) (r : Option Record) :
    (s.setSlot n r).scanner = s.scanner := rfl
@[simp] theorem State.setSlot_drive (n : Slot) (r : Option Record) :
    (s.setSlot n r).drive = s.drive := rfl
@[simp] theorem State.setSlot_fans (n : Slot) (r : Option Record) :
    (s.setSlot n r).fans = s.fans := rfl
@[simp] theorem State.setSlot_link (n : Slot) (r : Option Record) :
    (s.setSlot n r).link = s.link := rfl
@[simp] theorem State.setSlot_store (n : Slot) (r : Option Record) :
    (s.setSlot n r).store = s.store := rfl
@[simp] theorem State.setSlot_modes (n : Slot) (r : Option Record) :
    (s.setSlot n r).modes = s.modes := rfl
@[simp] theorem State.setSlot_pins (n : Slot) (r : Option Record) :
    (s.setSlot n r).pins = s.pins := rfl
@[simp] theorem State.setSlot_pending (n : Slot) (r : Option Record) :
    (s.setSlot n r).pending = s.pending := rfl

@[simp] theorem State.setList_table (t : Target) (l : List Slot) :
    (s.setList t l).table = { s.table with lists := s.table.lists.set t.val l } := rfl
@[simp] theorem State.setList_register (t : Target) (l : List Slot) :
    (s.setList t l).register = s.register := rfl
@[simp] theorem State.setList_climate (t : Target) (l : List Slot) :
    (s.setList t l).climate = s.climate := rfl
@[simp] theorem State.setList_coolant (t : Target) (l : List Slot) :
    (s.setList t l).coolant = s.coolant := rfl
@[simp] theorem State.setList_air (t : Target) (l : List Slot) :
    (s.setList t l).air = s.air := rfl
@[simp] theorem State.setList_intake (t : Target) (l : List Slot) :
    (s.setList t l).intake = s.intake := rfl
@[simp] theorem State.setList_scanner (t : Target) (l : List Slot) :
    (s.setList t l).scanner = s.scanner := rfl
@[simp] theorem State.setList_drive (t : Target) (l : List Slot) :
    (s.setList t l).drive = s.drive := rfl
@[simp] theorem State.setList_fans (t : Target) (l : List Slot) :
    (s.setList t l).fans = s.fans := rfl
@[simp] theorem State.setList_link (t : Target) (l : List Slot) :
    (s.setList t l).link = s.link := rfl
@[simp] theorem State.setList_store (t : Target) (l : List Slot) :
    (s.setList t l).store = s.store := rfl
@[simp] theorem State.setList_modes (t : Target) (l : List Slot) :
    (s.setList t l).modes = s.modes := rfl
@[simp] theorem State.setList_pins (t : Target) (l : List Slot) :
    (s.setList t l).pins = s.pins := rfl
@[simp] theorem State.setList_pending (t : Target) (l : List Slot) :
    (s.setList t l).pending = s.pending := rfl

@[simp] theorem State.setEntry_table (st : Station) (e : StationEntry) :
    (s.setEntry st e).table = s.table := rfl
@[simp] theorem State.setEntry_register (st : Station) (e : StationEntry) :
    (s.setEntry st e).register = { s.register with entries := s.register.entries.set st.val e } := rfl
@[simp] theorem State.setEntry_climate (st : Station) (e : StationEntry) :
    (s.setEntry st e).climate = s.climate := rfl
@[simp] theorem State.setEntry_coolant (st : Station) (e : StationEntry) :
    (s.setEntry st e).coolant = s.coolant := rfl
@[simp] theorem State.setEntry_air (st : Station) (e : StationEntry) :
    (s.setEntry st e).air = s.air := rfl
@[simp] theorem State.setEntry_intake (st : Station) (e : StationEntry) :
    (s.setEntry st e).intake = s.intake := rfl
@[simp] theorem State.setEntry_scanner (st : Station) (e : StationEntry) :
    (s.setEntry st e).scanner = s.scanner := rfl
@[simp] theorem State.setEntry_drive (st : Station) (e : StationEntry) :
    (s.setEntry st e).drive = s.drive := rfl
@[simp] theorem State.setEntry_fans (st : Station) (e : StationEntry) :
    (s.setEntry st e).fans = s.fans := rfl
@[simp] theorem State.setEntry_link (st : Station) (e : StationEntry) :
    (s.setEntry st e).link = s.link := rfl
@[simp] theorem State.setEntry_store (st : Station) (e : StationEntry) :
    (s.setEntry st e).store = s.store := rfl
@[simp] theorem State.setEntry_modes (st : Station) (e : StationEntry) :
    (s.setEntry st e).modes = s.modes := rfl
@[simp] theorem State.setEntry_pins (st : Station) (e : StationEntry) :
    (s.setEntry st e).pins = s.pins := rfl
@[simp] theorem State.setEntry_pending (st : Station) (e : StationEntry) :
    (s.setEntry st e).pending = s.pending := rfl

@[simp] theorem State.setLock_table (t : Target) (h : Option Station) :
    (s.setLock t h).table = s.table := rfl
@[simp] theorem State.setLock_register (t : Target) (h : Option Station) :
    (s.setLock t h).register = { s.register with locks := s.register.locks.set t.val h } := rfl
@[simp] theorem State.setLock_climate (t : Target) (h : Option Station) :
    (s.setLock t h).climate = s.climate := rfl
@[simp] theorem State.setLock_coolant (t : Target) (h : Option Station) :
    (s.setLock t h).coolant = s.coolant := rfl
@[simp] theorem State.setLock_air (t : Target) (h : Option Station) :
    (s.setLock t h).air = s.air := rfl
@[simp] theorem State.setLock_intake (t : Target) (h : Option Station) :
    (s.setLock t h).intake = s.intake := rfl
@[simp] theorem State.setLock_scanner (t : Target) (h : Option Station) :
    (s.setLock t h).scanner = s.scanner := rfl
@[simp] theorem State.setLock_drive (t : Target) (h : Option Station) :
    (s.setLock t h).drive = s.drive := rfl
@[simp] theorem State.setLock_fans (t : Target) (h : Option Station) :
    (s.setLock t h).fans = s.fans := rfl
@[simp] theorem State.setLock_link (t : Target) (h : Option Station) :
    (s.setLock t h).link = s.link := rfl
@[simp] theorem State.setLock_store (t : Target) (h : Option Station) :
    (s.setLock t h).store = s.store := rfl
@[simp] theorem State.setLock_modes (t : Target) (h : Option Station) :
    (s.setLock t h).modes = s.modes := rfl
@[simp] theorem State.setLock_pins (t : Target) (h : Option Station) :
    (s.setLock t h).pins = s.pins := rfl
@[simp] theorem State.setLock_pending (t : Target) (h : Option Station) :
    (s.setLock t h).pending = s.pending := rfl

@[simp] theorem State.enqueue_table (f : TxFrame) :
    (s.enqueue f).table = s.table := rfl
@[simp] theorem State.enqueue_register (f : TxFrame) :
    (s.enqueue f).register = s.register := rfl
@[simp] theorem State.enqueue_climate (f : TxFrame) :
    (s.enqueue f).climate = s.climate := rfl
@[simp] theorem State.enqueue_coolant (f : TxFrame) :
    (s.enqueue f).coolant = s.coolant := rfl
@[simp] theorem State.enqueue_air (f : TxFrame) :
    (s.enqueue f).air = s.air := rfl
@[simp] theorem State.enqueue_intake (f : TxFrame) :
    (s.enqueue f).intake = s.intake := rfl
@[simp] theorem State.enqueue_scanner (f : TxFrame) :
    (s.enqueue f).scanner = s.scanner := rfl
@[simp] theorem State.enqueue_drive (f : TxFrame) :
    (s.enqueue f).drive = s.drive := rfl
@[simp] theorem State.enqueue_fans (f : TxFrame) :
    (s.enqueue f).fans = s.fans := rfl
@[simp] theorem State.enqueue_link (f : TxFrame) :
    (s.enqueue f).link = { s.link with tx := s.link.tx ++ [f] } := rfl
@[simp] theorem State.enqueue_store (f : TxFrame) :
    (s.enqueue f).store = s.store := rfl
@[simp] theorem State.enqueue_modes (f : TxFrame) :
    (s.enqueue f).modes = s.modes := rfl
@[simp] theorem State.enqueue_pins (f : TxFrame) :
    (s.enqueue f).pins = s.pins := rfl
@[simp] theorem State.enqueue_pending (f : TxFrame) :
    (s.enqueue f).pending = s.pending := rfl

@[simp] theorem State.setMode_table (m : Mode) :
    (s.setMode m).table = s.table := rfl
@[simp] theorem State.setMode_register (m : Mode) :
    (s.setMode m).register = s.register := rfl
@[simp] theorem State.setMode_climate (m : Mode) :
    (s.setMode m).climate = s.climate := rfl
@[simp] theorem State.setMode_coolant (m : Mode) :
    (s.setMode m).coolant = s.coolant := rfl
@[simp] theorem State.setMode_air (m : Mode) :
    (s.setMode m).air = s.air := rfl
@[simp] theorem State.setMode_intake (m : Mode) :
    (s.setMode m).intake = s.intake := rfl
@[simp] theorem State.setMode_scanner (m : Mode) :
    (s.setMode m).scanner = s.scanner := rfl
@[simp] theorem State.setMode_drive (m : Mode) :
    (s.setMode m).drive = s.drive := rfl
@[simp] theorem State.setMode_fans (m : Mode) :
    (s.setMode m).fans = s.fans := rfl
@[simp] theorem State.setMode_link (m : Mode) :
    (s.setMode m).link = s.link := rfl
@[simp] theorem State.setMode_store (m : Mode) :
    (s.setMode m).store = s.store := rfl
@[simp] theorem State.setMode_modes (m : Mode) :
    (s.setMode m).modes = { s.modes with mode := m } := rfl
@[simp] theorem State.setMode_pins (m : Mode) :
    (s.setMode m).pins = s.pins := rfl
@[simp] theorem State.setMode_pending (m : Mode) :
    (s.setMode m).pending = s.pending := rfl

@[simp] theorem State.setAir_table (m : AirMonitor) :
    (s.setAir m).table = s.table := rfl
@[simp] theorem State.setAir_register (m : AirMonitor) :
    (s.setAir m).register = s.register := rfl
@[simp] theorem State.setAir_climate (m : AirMonitor) :
    (s.setAir m).climate = s.climate := rfl
@[simp] theorem State.setAir_coolant (m : AirMonitor) :
    (s.setAir m).coolant = s.coolant := rfl
@[simp] theorem State.setAir_air (m : AirMonitor) :
    (s.setAir m).air = m := rfl
@[simp] theorem State.setAir_intake (m : AirMonitor) :
    (s.setAir m).intake = s.intake := rfl
@[simp] theorem State.setAir_scanner (m : AirMonitor) :
    (s.setAir m).scanner = s.scanner := rfl
@[simp] theorem State.setAir_drive (m : AirMonitor) :
    (s.setAir m).drive = s.drive := rfl
@[simp] theorem State.setAir_fans (m : AirMonitor) :
    (s.setAir m).fans = s.fans := rfl
@[simp] theorem State.setAir_link (m : AirMonitor) :
    (s.setAir m).link = s.link := rfl
@[simp] theorem State.setAir_store (m : AirMonitor) :
    (s.setAir m).store = s.store := rfl
@[simp] theorem State.setAir_modes (m : AirMonitor) :
    (s.setAir m).modes = s.modes := rfl
@[simp] theorem State.setAir_pins (m : AirMonitor) :
    (s.setAir m).pins = s.pins := rfl
@[simp] theorem State.setAir_pending (m : AirMonitor) :
    (s.setAir m).pending = s.pending := rfl

@[simp] theorem State.setChannel_table (c : ChannelId) (ch : Channel) :
    (s.setChannel c ch).table = s.table := rfl
@[simp] theorem State.setChannel_register (c : ChannelId) (ch : Channel) :
    (s.setChannel c ch).register = s.register := rfl
@[simp] theorem State.setChannel_climate (c : ChannelId) (ch : Channel) :
    (s.setChannel c ch).climate = s.climate := rfl
@[simp] theorem State.setChannel_coolant (c : ChannelId) (ch : Channel) :
    (s.setChannel c ch).coolant = s.coolant := rfl
@[simp] theorem State.setChannel_air (c : ChannelId) (ch : Channel) :
    (s.setChannel c ch).air = s.air := rfl
@[simp] theorem State.setChannel_intake (c : ChannelId) (ch : Channel) :
    (s.setChannel c ch).intake = s.intake := rfl
@[simp] theorem State.setChannel_scanner (c : ChannelId) (ch : Channel) :
    (s.setChannel c ch).scanner = { s.scanner with channels := s.scanner.channels.set c.val ch } := rfl
@[simp] theorem State.setChannel_drive (c : ChannelId) (ch : Channel) :
    (s.setChannel c ch).drive = s.drive := rfl
@[simp] theorem State.setChannel_fans (c : ChannelId) (ch : Channel) :
    (s.setChannel c ch).fans = s.fans := rfl
@[simp] theorem State.setChannel_link (c : ChannelId) (ch : Channel) :
    (s.setChannel c ch).link = s.link := rfl
@[simp] theorem State.setChannel_store (c : ChannelId) (ch : Channel) :
    (s.setChannel c ch).store = s.store := rfl
@[simp] theorem State.setChannel_modes (c : ChannelId) (ch : Channel) :
    (s.setChannel c ch).modes = s.modes := rfl
@[simp] theorem State.setChannel_pins (c : ChannelId) (ch : Channel) :
    (s.setChannel c ch).pins = s.pins := rfl
@[simp] theorem State.setChannel_pending (c : ChannelId) (ch : Channel) :
    (s.setChannel c ch).pending = s.pending := rfl

@[simp] theorem State.withPending_table (q : List Instr) :
    (s.withPending q).table = s.table := rfl
@[simp] theorem State.withPending_register (q : List Instr) :
    (s.withPending q).register = s.register := rfl
@[simp] theorem State.withPending_climate (q : List Instr) :
    (s.withPending q).climate = s.climate := rfl
@[simp] theorem State.withPending_coolant (q : List Instr) :
    (s.withPending q).coolant = s.coolant := rfl
@[simp] theorem State.withPending_air (q : List Instr) :
    (s.withPending q).air = s.air := rfl
@[simp] theorem State.withPending_intake (q : List Instr) :
    (s.withPending q).intake = s.intake := rfl
@[simp] theorem State.withPending_scanner (q : List Instr) :
    (s.withPending q).scanner = s.scanner := rfl
@[simp] theorem State.withPending_drive (q : List Instr) :
    (s.withPending q).drive = s.drive := rfl
@[simp] theorem State.withPending_fans (q : List Instr) :
    (s.withPending q).fans = s.fans := rfl
@[simp] theorem State.withPending_link (q : List Instr) :
    (s.withPending q).link = s.link := rfl
@[simp] theorem State.withPending_store (q : List Instr) :
    (s.withPending q).store = s.store := rfl
@[simp] theorem State.withPending_modes (q : List Instr) :
    (s.withPending q).modes = s.modes := rfl
@[simp] theorem State.withPending_pins (q : List Instr) :
    (s.withPending q).pins = s.pins := rfl
@[simp] theorem State.withPending_pending (q : List Instr) :
    (s.withPending q).pending = q := rfl

@[simp] theorem State.bringOnline_table :
    s.bringOnline.table = s.table := rfl
@[simp] theorem State.bringOnline_register :
    s.bringOnline.register = s.register := rfl
@[simp] theorem State.bringOnline_climate :
    s.bringOnline.climate = s.climate := rfl
@[simp] theorem State.bringOnline_coolant :
    s.bringOnline.coolant = s.coolant := rfl
@[simp] theorem State.bringOnline_air :
    s.bringOnline.air = s.air := rfl
@[simp] theorem State.bringOnline_intake :
    s.bringOnline.intake = s.intake := rfl
@[simp] theorem State.bringOnline_scanner :
    s.bringOnline.scanner = s.scanner := rfl
@[simp] theorem State.bringOnline_drive :
    s.bringOnline.drive = s.drive := rfl
@[simp] theorem State.bringOnline_fans :
    s.bringOnline.fans = s.fans := rfl
@[simp] theorem State.bringOnline_link :
    s.bringOnline.link = { s.link with state := .online } := rfl
@[simp] theorem State.bringOnline_store :
    s.bringOnline.store = s.store := rfl
@[simp] theorem State.bringOnline_modes :
    s.bringOnline.modes = s.modes := rfl
@[simp] theorem State.bringOnline_pins :
    s.bringOnline.pins = s.pins := rfl
@[simp] theorem State.bringOnline_pending :
    s.bringOnline.pending = s.pending := rfl

@[simp] theorem State.setZone_table (z : Zone) (zs : ZoneState) :
    (s.setZone z zs).table = s.table := rfl
@[simp] theorem State.setZone_register (z : Zone) (zs : ZoneState) :
    (s.setZone z zs).register = s.register := rfl
@[simp] theorem State.setZone_climate (z : Zone) (zs : ZoneState) :
    (s.setZone z zs).climate = { s.climate with zones := s.climate.zones.set z.val zs } := rfl
@[simp] theorem State.setZone_coolant (z : Zone) (zs : ZoneState) :
    (s.setZone z zs).coolant = s.coolant := rfl
@[simp] theorem State.setZone_air (z : Zone) (zs : ZoneState) :
    (s.setZone z zs).air = s.air := rfl
@[simp] theorem State.setZone_intake (z : Zone) (zs : ZoneState) :
    (s.setZone z zs).intake = s.intake := rfl
@[simp] theorem State.setZone_scanner (z : Zone) (zs : ZoneState) :
    (s.setZone z zs).scanner = s.scanner := rfl
@[simp] theorem State.setZone_drive (z : Zone) (zs : ZoneState) :
    (s.setZone z zs).drive = s.drive := rfl
@[simp] theorem State.setZone_fans (z : Zone) (zs : ZoneState) :
    (s.setZone z zs).fans = s.fans := rfl
@[simp] theorem State.setZone_link (z : Zone) (zs : ZoneState) :
    (s.setZone z zs).link = s.link := rfl
@[simp] theorem State.setZone_store (z : Zone) (zs : ZoneState) :
    (s.setZone z zs).store = s.store := rfl
@[simp] theorem State.setZone_modes (z : Zone) (zs : ZoneState) :
    (s.setZone z zs).modes = s.modes := rfl
@[simp] theorem State.setZone_pins (z : Zone) (zs : ZoneState) :
    (s.setZone z zs).pins = s.pins := rfl
@[simp] theorem State.setZone_pending (z : Zone) (zs : ZoneState) :
    (s.setZone z zs).pending = s.pending := rfl

@[simp] theorem State.debounced_table :
    s.debounced.table = s.table := rfl
@[simp] theorem State.debounced_register :
    s.debounced.register = s.register := rfl
@[simp] theorem State.debounced_climate :
    s.debounced.climate = s.climate := rfl
@[simp] theorem State.debounced_coolant :
    s.debounced.coolant = s.coolant := rfl
@[simp] theorem State.debounced_air :
    s.debounced.air = s.air := rfl
@[simp] theorem State.debounced_intake :
    s.debounced.intake = s.intake := rfl
@[simp] theorem State.debounced_scanner :
    s.debounced.scanner = s.scanner := rfl
@[simp] theorem State.debounced_drive :
    s.debounced.drive = s.drive := rfl
@[simp] theorem State.debounced_fans :
    s.debounced.fans = s.fans := rfl
@[simp] theorem State.debounced_link :
    s.debounced.link = s.link := rfl
@[simp] theorem State.debounced_store :
    s.debounced.store = s.store := rfl
@[simp] theorem State.debounced_modes :
    s.debounced.modes = { s.modes with debounce := none, ignition := s.pins.ignition } := rfl
@[simp] theorem State.debounced_pins :
    s.debounced.pins = s.pins := rfl
@[simp] theorem State.debounced_pending :
    s.debounced.pending = s.pending := rfl

@[simp] theorem State.mapEntries_table (g : Station → StationEntry → StationEntry) :
    (s.mapEntries g).table = s.table := rfl
@[simp] theorem State.mapEntries_register (g : Station → StationEntry → StationEntry) :
    (s.mapEntries g).register = { s.register with entries := Vector.ofFn (fun i : Fin 16 => g i s.register.entries[i.val]) } := rfl
@[simp] theorem State.mapEntries_climate (g : Station → StationEntry → StationEntry) :
    (s.mapEntries g).climate = s.climate := rfl
@[simp] theorem State.mapEntries_coolant (g : Station → StationEntry → StationEntry) :
    (s.mapEntries g).coolant = s.coolant := rfl
@[simp] theorem State.mapEntries_air (g : Station → StationEntry → StationEntry) :
    (s.mapEntries g).air = s.air := rfl
@[simp] theorem State.mapEntries_intake (g : Station → StationEntry → StationEntry) :
    (s.mapEntries g).intake = s.intake := rfl
@[simp] theorem State.mapEntries_scanner (g : Station → StationEntry → StationEntry) :
    (s.mapEntries g).scanner = s.scanner := rfl
@[simp] theorem State.mapEntries_drive (g : Station → StationEntry → StationEntry) :
    (s.mapEntries g).drive = s.drive := rfl
@[simp] theorem State.mapEntries_fans (g : Station → StationEntry → StationEntry) :
    (s.mapEntries g).fans = s.fans := rfl
@[simp] theorem State.mapEntries_link (g : Station → StationEntry → StationEntry) :
    (s.mapEntries g).link = s.link := rfl
@[simp] theorem State.mapEntries_store (g : Station → StationEntry → StationEntry) :
    (s.mapEntries g).store = s.store := rfl
@[simp] theorem State.mapEntries_modes (g : Station → StationEntry → StationEntry) :
    (s.mapEntries g).modes = s.modes := rfl
@[simp] theorem State.mapEntries_pins (g : Station → StationEntry → StationEntry) :
    (s.mapEntries g).pins = s.pins := rfl
@[simp] theorem State.mapEntries_pending (g : Station → StationEntry → StationEntry) :
    (s.mapEntries g).pending = s.pending := rfl

end Sys2Proof.Machine
end

