-- ==== Sys2Proof/Laws/Ops.lean ====
section
/-! SUPPORT. What each shared operation over the table, the register and the outgoing queue can do, said once: reading
after writing, the cases of a notice, of a retirement, of an insertion, and what every one of them leaves alone. -/

namespace Sys2Proof.Machine

variable (s : State)

/-! ## Reading after writing -/

@[simp] theorem State.record_setSlot_same (n : Slot) (r : Option Record) : (s.setSlot n r).record n = r := by
  simp [State.record, State.setSlot]

theorem State.record_setSlot (n m : Slot) (r : Option Record) :
    (s.setSlot n r).record m = if m = n then r else s.record m := by
  by_cases h : m = n
  · subst h; simp
  · have h' : n.val ≠ m.val := fun e => h (Fin.ext e.symm)
    simp [State.record, State.setSlot, h, h']

@[simp] theorem State.list_setList_same (t : Target) (l : List Slot) : (s.setList t l).list t = l := by
  simp [State.list, State.setList]

theorem State.list_setList (t u : Target) (l : List Slot) :
    (s.setList t l).list u = if u = t then l else s.list u := by
  by_cases h : u = t
  · subst h; simp
  · have h' : t.val ≠ u.val := fun e => h (Fin.ext e.symm)
    simp [State.list, State.setList, h, h']

@[simp] theorem State.entry_setEntry_same (st : Station) (e : StationEntry) : (s.setEntry st e).entry st = e := by
  simp [State.entry, State.setEntry]

theorem State.entry_setEntry (st u : Station) (e : StationEntry) :
    (s.setEntry st e).entry u = if u = st then e else s.entry u := by
  by_cases h : u = st
  · subst h; simp
  · have h' : st.val ≠ u.val := fun e => h (Fin.ext e.symm)
    simp [State.entry, State.setEntry, h, h']

theorem State.lockOf_setLock (t u : Target) (h : Option Station) :
    (s.setLock t h).lockOf u = if u = t then h else s.lockOf u := by
  by_cases e : u = t
  · subst e; simp [State.lockOf, State.setLock]
  · have e' : t.val ≠ u.val := fun x => e (Fin.ext x.symm)
    simp [State.lockOf, State.setLock, e, e']

/-- A record reads from the table alone. -/
theorem State.record_congr {s t : State} (h : s.table.slots = t.table.slots) (n : Slot) : s.record n = t.record n := by
  simp [State.record, h]

/-- A list reads from the table alone. -/
theorem State.list_congr {s t : State} (h : s.table.lists = t.table.lists) (u : Target) : s.list u = t.list u := by
  simp [State.list, h]

/-- An entry reads from the register alone. -/
theorem State.entry_congr {s t : State} (h : s.register.entries = t.register.entries) (st : Station) :
    s.entry st = t.entry st := by
  simp [State.entry, h]

@[simp] theorem State.record_setList (t : Target) (l : List Slot) (n : Slot) :
    (s.setList t l).record n = s.record n := State.record_congr (by simp) n
@[simp] theorem State.record_setEntry (st : Station) (e : StationEntry) (n : Slot) :
    (s.setEntry st e).record n = s.record n := State.record_congr (by simp) n
@[simp] theorem State.record_enqueue (f : TxFrame) (n : Slot) : (s.enqueue f).record n = s.record n :=
  State.record_congr (by simp) n
@[simp] theorem State.list_setSlot (n : Slot) (r : Option Record) (t : Target) :
    (s.setSlot n r).list t = s.list t := State.list_congr (by simp) t
@[simp] theorem State.list_setEntry (st : Station) (e : StationEntry) (t : Target) :
    (s.setEntry st e).list t = s.list t := State.list_congr (by simp) t
@[simp] theorem State.list_enqueue (f : TxFrame) (t : Target) : (s.enqueue f).list t = s.list t :=
  State.list_congr (by simp) t
@[simp] theorem State.entry_setSlot (n : Slot) (r : Option Record) (st : Station) :
    (s.setSlot n r).entry st = s.entry st := State.entry_congr (by simp) st
@[simp] theorem State.entry_setList (t : Target) (l : List Slot) (st : Station) :
    (s.setList t l).entry st = s.entry st := State.entry_congr (by simp) st
@[simp] theorem State.entry_enqueue (f : TxFrame) (st : Station) : (s.enqueue f).entry st = s.entry st :=
  State.entry_congr (by simp) st

/-! ## A fold of an operation that keeps something keeps it -/

/-- What every step of a fold keeps, the fold keeps. -/
theorem foldl_keeps {α β σ : Type} (g : σ → β) (f : σ → α → σ) (h : ∀ s a, g (f s a) = g s) (l : List α) (s : σ) :
    g (l.foldl f s) = g s := by
  induction l generalizing s with
  | nil => rfl
  | cons a l ih => simp [ih, h]

/-- An invariant that every step of a fold keeps, the fold keeps. -/
theorem foldl_inv {α σ : Type} (P : σ → Prop) (f : σ → α → σ) (h : ∀ s a, P s → P (f s a)) (l : List α) (s : σ)
    (hs : P s) : P (l.foldl f s) := by
  induction l generalizing s with
  | nil => exact hs
  | cons a l ih => exact ih _ (h _ _ hs)

/-! ## Notices -/

/-- All that handing a notice can do: nothing, one frame at the tail, or one station's flag. -/
theorem State.handNotice_cases (st : Station) (c : Category) (d : Vector Byte 8) :
    ((st = 0 ∨ (s.entry st).mask.getLsbD c.bit = false) ∧ s.handNotice st c d = s) ∨
    (st ≠ 0 ∧ (s.entry st).mask.getLsbD c.bit = true ∧ s.noticeRoom = true ∧
      s.handNotice st c d = s.enqueue { station := st, data := d }) ∨
    (st ≠ 0 ∧ (s.entry st).mask.getLsbD c.bit = true ∧ s.noticeRoom = false ∧
      s.handNotice st c d = s.setEntry st { s.entry st with overrun := true }) := by
  unfold State.handNotice
  by_cases h : st = 0 ∨ (s.entry st).mask.getLsbD c.bit = false
  · exact .inl ⟨h, if_pos h⟩
  · have h0 := fun e => h (.inl e)
    have h1 : (s.entry st).mask.getLsbD c.bit = true := by
      cases hm : (s.entry st).mask.getLsbD c.bit
      · exact absurd (.inr hm) h
      · rfl
    cases hr : s.noticeRoom
    · exact .inr (.inr ⟨h0, h1, rfl, by simp [h]⟩)
    · exact .inr (.inl ⟨h0, h1, rfl, by simp [h]⟩)

/-- A notice touches nothing but the outgoing queue and one flag. -/
@[simp] theorem State.handNotice_frame (st : Station) (c : Category) (d : Vector Byte 8) :
    (s.handNotice st c d).table = s.table ∧ (s.handNotice st c d).climate = s.climate ∧
    (s.handNotice st c d).coolant = s.coolant ∧ (s.handNotice st c d).air = s.air ∧
    (s.handNotice st c d).intake = s.intake ∧ (s.handNotice st c d).scanner = s.scanner ∧
    (s.handNotice st c d).drive = s.drive ∧ (s.handNotice st c d).fans = s.fans ∧
    (s.handNotice st c d).store = s.store ∧ (s.handNotice st c d).modes = s.modes ∧
    (s.handNotice st c d).pins = s.pins ∧ (s.handNotice st c d).pending = s.pending := by
  rcases s.handNotice_cases st c d with ⟨_, h⟩ | ⟨_, _, _, h⟩ | ⟨_, _, _, h⟩ <;> simp [h]

/-- What a notice can do to a station's entry: set its notice-overrun flag. -/
theorem State.handNotice_entry (st u : Station) (c : Category) (d : Vector Byte 8) :
    (s.handNotice st c d).entry u = s.entry u ∨
    (s.handNotice st c d).entry u = { s.entry u with overrun := true } := by
  rcases s.handNotice_cases st c d with ⟨_, h⟩ | ⟨_, _, _, h⟩ | ⟨_, _, _, h⟩
  · exact .inl (by simp [h])
  · exact .inl (by simp [h])
  · by_cases e : u = st
    · subst e; exact .inr (by simp [h])
    · exact .inl (by simp [h, State.entry_setEntry, e])

/-- What a notice can do to the link: one frame more at the tail of the outgoing queue, with room for it. -/
theorem State.handNotice_link (st : Station) (c : Category) (d : Vector Byte 8) :
    (s.handNotice st c d).link = s.link ∨
    (s.noticeRoom = true ∧
      (s.handNotice st c d).link = { s.link with tx := s.link.tx ++ [{ station := st, data := d }] }) := by
  rcases s.handNotice_cases st c d with ⟨_, h⟩ | ⟨_, _, hr, h⟩ | ⟨_, _, _, h⟩
  · exact .inl (by simp [h])
  · exact .inr ⟨hr, by simp [h]⟩
  · exact .inl (by simp [h])

/-! ## Insertion -/

/-- An insertion keeps the members and adds one. -/
theorem mem_insertAfterLast (p : Slot → Bool) (x y : Slot) (l : List Slot) :
    y ∈ insertAfterLast p x l ↔ y = x ∨ y ∈ l := by
  induction l with
  | nil => simp [insertAfterLast]
  | cons a l ih =>
    unfold insertAfterLast
    split
    · simp [ih]; tauto
    · simp

/-- All that a displacement can do (R31). -/
theorem State.displace_cases (n : Slot) :
    s.displace n = s ∨
    ∃ r, s.record n = some r ∧ r.state.judgedFirst = true ∧
      s.displace n = (s.setSlot n (some { r with state := .queued })).stateNotice n := by
  unfold State.displace
  split
  · exact .inl rfl
  · rename_i r hr
    by_cases h : r.state.judgedFirst = true
    · exact .inr ⟨r, hr, h, by simp [h]⟩
    · exact .inl (by simp [h])

/-! ## Retirement -/

/-- A free slot is retired with no effect. -/
theorem State.retire_none (n : Slot) (h : s.record n = none) : s.retire n = s := by simp [State.retire, h]

/-- The slots after a retirement (R21). -/
@[simp] theorem State.record_retire (n m : Slot) : (s.retire n).record m = if m = n then none else s.record m := by
  unfold State.retire
  split
  · rename_i h
    by_cases e : m = n
    · subst e; simp [h]
    · simp [e]
  · simp [State.record_setSlot]

/-- The lists after a retirement (R27). -/
theorem State.list_retire (n : Slot) (r : Record) (h : s.record n = some r) (t : Target) :
    (s.retire n).list t = if t = r.target then (s.list t).filter (· != n) else s.list t := by
  simp only [State.retire, h, State.list_setEntry, State.list_setList, State.list_setSlot]
  split
  · rename_i e; rw [e]
  · rfl

/-- The entries after a retirement (R45). -/
theorem State.entry_retire (n : Slot) (r : Record) (h : s.record n = some r) (st : Station) :
    (s.retire n).entry st =
      if st = r.station then { s.entry st with quota := (s.entry st).quota + 1 } else s.entry st := by
  simp only [State.retire, h, State.entry_setEntry]
  split
  · rename_i e; rw [e]
  · simp

/-- The slots after a noticed retirement (R21). -/
@[simp] theorem State.record_retireNoticed (reason : Reason) (n m : Slot) :
    (s.retireNoticed reason n).record m = if m = n then none else s.record m := by
  unfold State.retireNoticed
  split
  · rename_i h
    by_cases e : m = n
    · subst e; simp [h]
    · simp [e]
  · rw [State.record_congr (t := s.retire n) (by simp)]; simp

/-- The slots after one step of the retirement of a set. -/
theorem State.record_retireIf (reason : Reason) (p : Record → Bool) (n m : Slot) :
    (s.retireIf reason p n).record m = if m = n then (s.record m).filter (fun r => !p r) else s.record m := by
  unfold State.retireIf
  by_cases e : m = n
  · subst e
    cases h : s.record m with
    | none => simp [h]
    | some r => cases hp : p r <;> simp [h, hp, Option.filter]
  · cases h : s.record n with
    | none => simp [e]
    | some r => cases hp : p r <;> simp [e, hp]

/-- The slots after the retirement of a set (R22): the live records that satisfy p are gone, the others stand. -/
theorem State.record_retireAll (reason : Reason) (p : Record → Bool) (m : Slot) :
    (s.retireAll reason p).record m = (s.record m).filter (fun r => !p r) := by
  have key : ∀ (l : List Slot) (s : State), (l.foldl (fun s n => s.retireIf reason p n) s).record m =
      if m ∈ l then (s.record m).filter (fun r => !p r) else s.record m := by
    intro l
    induction l with
    | nil => intro s; simp
    | cons a l ih =>
      intro s
      rw [List.foldl_cons, ih, State.record_retireIf]
      by_cases e : m = a
      · subst e
        cases s.record m with
        | none => simp
        | some r => cases hp : p r <;> simp [Option.filter, hp]
      · simp [e]
  simp [State.retireAll, key]

/-! ## Internal posts -/

/-- All that an internal post can do (R15). -/
theorem State.internalPost_cases (n : Slot) (k : Kind) (v : Option Nat) :
    (s.record n ≠ none ∧ s.internalPost n k v = s) ∨
    (s.record n = none ∧ s.internalPost n k v = s.create n
      { target := intakeTarget, station := 0, kind := k, postSeq := 0, level := none, value := v,
        grantedFlow := none, grantedLevel := none }) := by
  unfold State.internalPost
  cases h : s.record n with
  | none => exact .inr ⟨rfl, rfl⟩
  | some r => exact .inl ⟨by simp, rfl⟩

end Sys2Proof.Machine
end

