-- ==== Sys2Proof/Laws/Frames.lean ====
section
/-! SUPPORT. The frame of each operation on the machine: the blocks it leaves as they were. -/

namespace Sys2Proof.Machine

variable (s : State)

/-- A fold of operations that leave a block as it is leaves it as it is. -/
theorem foldl_frame {α β : Type} (g : State → β) (f : State → α → State) (h : ∀ s a, g (f s a) = g s) (l : List α)
    (s : State) : g (l.foldl f s) = g s := foldl_keeps g f h l s

@[simp] theorem State.stateNotice_frame (n : Slot) :
    (s.stateNotice n).table = s.table ∧ (s.stateNotice n).climate = s.climate ∧
    (s.stateNotice n).coolant = s.coolant ∧ (s.stateNotice n).air = s.air ∧
    (s.stateNotice n).intake = s.intake ∧ (s.stateNotice n).scanner = s.scanner ∧
    (s.stateNotice n).drive = s.drive ∧ (s.stateNotice n).fans = s.fans ∧ (s.stateNotice n).store = s.store ∧
    (s.stateNotice n).modes = s.modes ∧ (s.stateNotice n).pins = s.pins ∧ (s.stateNotice n).pending = s.pending := by
  simp only [State.stateNotice]; (repeat' split) <;> simp

@[simp] theorem State.limitNotice_frame (n : Slot) :
    (s.limitNotice n).table = s.table ∧ (s.limitNotice n).climate = s.climate ∧
    (s.limitNotice n).coolant = s.coolant ∧ (s.limitNotice n).air = s.air ∧
    (s.limitNotice n).intake = s.intake ∧ (s.limitNotice n).scanner = s.scanner ∧
    (s.limitNotice n).drive = s.drive ∧ (s.limitNotice n).fans = s.fans ∧ (s.limitNotice n).store = s.store ∧
    (s.limitNotice n).modes = s.modes ∧ (s.limitNotice n).pins = s.pins ∧ (s.limitNotice n).pending = s.pending := by
  simp only [State.limitNotice]; (repeat' split) <;> simp

@[simp] theorem State.airNotices_frame (new old : Contamination) :
    (s.airNotices new old).table = s.table ∧ (s.airNotices new old).climate = s.climate ∧
    (s.airNotices new old).coolant = s.coolant ∧ (s.airNotices new old).air = s.air ∧
    (s.airNotices new old).intake = s.intake ∧ (s.airNotices new old).scanner = s.scanner ∧
    (s.airNotices new old).drive = s.drive ∧ (s.airNotices new old).fans = s.fans ∧
    (s.airNotices new old).store = s.store ∧ (s.airNotices new old).modes = s.modes ∧
    (s.airNotices new old).pins = s.pins ∧ (s.airNotices new old).pending = s.pending := 
  ⟨foldl_frame State.table _ (fun s a => by split <;> simp) _ s,
   foldl_frame State.climate _ (fun s a => by split <;> simp) _ s,
   foldl_frame State.coolant _ (fun s a => by split <;> simp) _ s,
   foldl_frame State.air _ (fun s a => by split <;> simp) _ s,
   foldl_frame State.intake _ (fun s a => by split <;> simp) _ s,
   foldl_frame State.scanner _ (fun s a => by split <;> simp) _ s,
   foldl_frame State.drive _ (fun s a => by split <;> simp) _ s,
   foldl_frame State.fans _ (fun s a => by split <;> simp) _ s,
   foldl_frame State.store _ (fun s a => by split <;> simp) _ s,
   foldl_frame State.modes _ (fun s a => by split <;> simp) _ s,
   foldl_frame State.pins _ (fun s a => by split <;> simp) _ s,
   foldl_frame State.pending _ (fun s a => by split <;> simp) _ s⟩

@[simp] theorem State.displace_frame (n : Slot) :
    (s.displace n).climate = s.climate ∧ (s.displace n).coolant = s.coolant ∧ (s.displace n).air = s.air ∧
    (s.displace n).intake = s.intake ∧ (s.displace n).scanner = s.scanner ∧ (s.displace n).drive = s.drive ∧
    (s.displace n).fans = s.fans ∧ (s.displace n).store = s.store ∧ (s.displace n).modes = s.modes ∧
    (s.displace n).pins = s.pins ∧ (s.displace n).pending = s.pending := by
  simp only [State.displace]; (repeat' split) <;> simp

@[simp] theorem State.insert_frame (n : Slot) (r : Record) :
    (s.insert n r).climate = s.climate ∧ (s.insert n r).coolant = s.coolant ∧ (s.insert n r).air = s.air ∧
    (s.insert n r).intake = s.intake ∧ (s.insert n r).scanner = s.scanner ∧ (s.insert n r).drive = s.drive ∧
    (s.insert n r).fans = s.fans ∧ (s.insert n r).store = s.store ∧ (s.insert n r).modes = s.modes ∧
    (s.insert n r).pins = s.pins ∧ (s.insert n r).pending = s.pending := by
  simp only [State.insert]; (repeat' split) <;> simp

@[simp] theorem State.create_frame (n : Slot) (r : Record) :
    (s.create n r).climate = s.climate ∧ (s.create n r).coolant = s.coolant ∧ (s.create n r).air = s.air ∧
    (s.create n r).intake = s.intake ∧ (s.create n r).scanner = s.scanner ∧ (s.create n r).drive = s.drive ∧
    (s.create n r).fans = s.fans ∧ (s.create n r).store = s.store ∧ (s.create n r).modes = s.modes ∧
    (s.create n r).pins = s.pins ∧ (s.create n r).pending = s.pending := by
  simp [State.create]

@[simp] theorem State.retire_frame (n : Slot) :
    (s.retire n).climate = s.climate ∧ (s.retire n).coolant = s.coolant ∧ (s.retire n).air = s.air ∧
    (s.retire n).intake = s.intake ∧ (s.retire n).scanner = s.scanner ∧ (s.retire n).drive = s.drive ∧
    (s.retire n).fans = s.fans ∧ (s.retire n).link = s.link ∧ (s.retire n).store = s.store ∧
    (s.retire n).modes = s.modes ∧ (s.retire n).pins = s.pins ∧ (s.retire n).pending = s.pending := by
  simp only [State.retire]; (repeat' split) <;> simp

@[simp] theorem State.retireNoticed_frame (reason : Reason) (n : Slot) :
    (s.retireNoticed reason n).climate = s.climate ∧ (s.retireNoticed reason n).coolant = s.coolant ∧
    (s.retireNoticed reason n).air = s.air ∧ (s.retireNoticed reason n).intake = s.intake ∧
    (s.retireNoticed reason n).scanner = s.scanner ∧ (s.retireNoticed reason n).drive = s.drive ∧
    (s.retireNoticed reason n).fans = s.fans ∧ (s.retireNoticed reason n).store = s.store ∧
    (s.retireNoticed reason n).modes = s.modes ∧ (s.retireNoticed reason n).pins = s.pins ∧
    (s.retireNoticed reason n).pending = s.pending := by
  simp only [State.retireNoticed]; (repeat' split) <;> simp

@[simp] theorem State.retireIf_frame (reason : Reason) (p : Record → Bool) (n : Slot) :
    (s.retireIf reason p n).climate = s.climate ∧ (s.retireIf reason p n).coolant = s.coolant ∧
    (s.retireIf reason p n).air = s.air ∧ (s.retireIf reason p n).intake = s.intake ∧
    (s.retireIf reason p n).scanner = s.scanner ∧ (s.retireIf reason p n).drive = s.drive ∧
    (s.retireIf reason p n).fans = s.fans ∧ (s.retireIf reason p n).store = s.store ∧
    (s.retireIf reason p n).modes = s.modes ∧ (s.retireIf reason p n).pins = s.pins ∧
    (s.retireIf reason p n).pending = s.pending := by
  simp only [State.retireIf]; (repeat' split) <;> simp

@[simp] theorem State.retireAll_frame (reason : Reason) (p : Record → Bool) :
    (s.retireAll reason p).climate = s.climate ∧ (s.retireAll reason p).coolant = s.coolant ∧
    (s.retireAll reason p).air = s.air ∧ (s.retireAll reason p).intake = s.intake ∧
    (s.retireAll reason p).scanner = s.scanner ∧ (s.retireAll reason p).drive = s.drive ∧
    (s.retireAll reason p).fans = s.fans ∧ (s.retireAll reason p).store = s.store ∧
    (s.retireAll reason p).modes = s.modes ∧ (s.retireAll reason p).pins = s.pins ∧
    (s.retireAll reason p).pending = s.pending := 
  ⟨foldl_frame State.climate _ (fun s a => by simp) _ s,
   foldl_frame State.coolant _ (fun s a => by simp) _ s,
   foldl_frame State.air _ (fun s a => by simp) _ s,
   foldl_frame State.intake _ (fun s a => by simp) _ s,
   foldl_frame State.scanner _ (fun s a => by simp) _ s,
   foldl_frame State.drive _ (fun s a => by simp) _ s,
   foldl_frame State.fans _ (fun s a => by simp) _ s,
   foldl_frame State.store _ (fun s a => by simp) _ s,
   foldl_frame State.modes _ (fun s a => by simp) _ s,
   foldl_frame State.pins _ (fun s a => by simp) _ s,
   foldl_frame State.pending _ (fun s a => by simp) _ s⟩

@[simp] theorem State.internalPost_frame (n : Slot) (k : Kind) (v : Option Nat) :
    (s.internalPost n k v).climate = s.climate ∧ (s.internalPost n k v).coolant = s.coolant ∧
    (s.internalPost n k v).air = s.air ∧ (s.internalPost n k v).intake = s.intake ∧
    (s.internalPost n k v).scanner = s.scanner ∧ (s.internalPost n k v).drive = s.drive ∧
    (s.internalPost n k v).fans = s.fans ∧ (s.internalPost n k v).store = s.store ∧
    (s.internalPost n k v).modes = s.modes ∧ (s.internalPost n k v).pins = s.pins ∧
    (s.internalPost n k v).pending = s.pending := by
  simp only [State.internalPost]; (repeat' split) <;> simp

@[simp] theorem State.postSeal_frame :
    s.postSeal.climate = s.climate ∧ s.postSeal.coolant = s.coolant ∧ s.postSeal.air = s.air ∧
    s.postSeal.intake = s.intake ∧ s.postSeal.scanner = s.scanner ∧ s.postSeal.drive = s.drive ∧
    s.postSeal.fans = s.fans ∧ s.postSeal.store = s.store ∧ s.postSeal.modes = s.modes ∧
    s.postSeal.pins = s.pins ∧ s.postSeal.pending = s.pending := by
  simp [State.postSeal]

@[simp] theorem State.postPurge_frame :
    s.postPurge.climate = s.climate ∧ s.postPurge.coolant = s.coolant ∧ s.postPurge.air = s.air ∧
    s.postPurge.intake = s.intake ∧ s.postPurge.scanner = s.scanner ∧ s.postPurge.drive = s.drive ∧
    s.postPurge.fans = s.fans ∧ s.postPurge.store = s.store ∧ s.postPurge.modes = s.modes ∧
    s.postPurge.pins = s.pins ∧ s.postPurge.pending = s.pending := by
  simp [State.postPurge]

@[simp] theorem State.handTarget_frame (a : ActuatorId) (t : Nat) :
    (s.handTarget a t).table = s.table ∧ (s.handTarget a t).register = s.register ∧
    (s.handTarget a t).climate = s.climate ∧ (s.handTarget a t).coolant = s.coolant ∧
    (s.handTarget a t).air = s.air ∧ (s.handTarget a t).intake = s.intake ∧
    (s.handTarget a t).scanner = s.scanner ∧ (s.handTarget a t).fans = s.fans ∧
    (s.handTarget a t).link = s.link ∧ (s.handTarget a t).store = s.store ∧ (s.handTarget a t).modes = s.modes ∧
    (s.handTarget a t).pins = s.pins ∧ (s.handTarget a t).pending = s.pending := by
  simp only [State.handTarget]; (repeat' split) <;> simp

@[simp] theorem State.handTargets_frame (l : List (ActuatorId × Nat)) :
    (s.handTargets l).table = s.table ∧ (s.handTargets l).register = s.register ∧
    (s.handTargets l).climate = s.climate ∧ (s.handTargets l).coolant = s.coolant ∧
    (s.handTargets l).air = s.air ∧ (s.handTargets l).intake = s.intake ∧
    (s.handTargets l).scanner = s.scanner ∧ (s.handTargets l).fans = s.fans ∧ (s.handTargets l).link = s.link ∧
    (s.handTargets l).store = s.store ∧ (s.handTargets l).modes = s.modes ∧ (s.handTargets l).pins = s.pins ∧
    (s.handTargets l).pending = s.pending := 
  ⟨foldl_frame State.table _ (fun s a => by simp) _ s,
   foldl_frame State.register _ (fun s a => by simp) _ s,
   foldl_frame State.climate _ (fun s a => by simp) _ s,
   foldl_frame State.coolant _ (fun s a => by simp) _ s,
   foldl_frame State.air _ (fun s a => by simp) _ s,
   foldl_frame State.intake _ (fun s a => by simp) _ s,
   foldl_frame State.scanner _ (fun s a => by simp) _ s,
   foldl_frame State.fans _ (fun s a => by simp) _ s,
   foldl_frame State.link _ (fun s a => by simp) _ s,
   foldl_frame State.store _ (fun s a => by simp) _ s,
   foldl_frame State.modes _ (fun s a => by simp) _ s,
   foldl_frame State.pins _ (fun s a => by simp) _ s,
   foldl_frame State.pending _ (fun s a => by simp) _ s⟩

@[simp] theorem State.homeOne_frame (a : ActuatorId) :
    (s.homeOne a).table = s.table ∧ (s.homeOne a).register = s.register ∧ (s.homeOne a).climate = s.climate ∧
    (s.homeOne a).coolant = s.coolant ∧ (s.homeOne a).air = s.air ∧ (s.homeOne a).intake = s.intake ∧
    (s.homeOne a).scanner = s.scanner ∧ (s.homeOne a).fans = s.fans ∧ (s.homeOne a).link = s.link ∧
    (s.homeOne a).store = s.store ∧ (s.homeOne a).modes = s.modes ∧ (s.homeOne a).pins = s.pins ∧
    (s.homeOne a).pending = s.pending := by
  simp only [State.homeOne]; (repeat' split) <;> simp

@[simp] theorem State.startHoming_frame :
    s.startHoming.table = s.table ∧ s.startHoming.register = s.register ∧ s.startHoming.climate = s.climate ∧
    s.startHoming.coolant = s.coolant ∧ s.startHoming.air = s.air ∧ s.startHoming.intake = s.intake ∧
    s.startHoming.scanner = s.scanner ∧ s.startHoming.fans = s.fans ∧ s.startHoming.link = s.link ∧
    s.startHoming.store = s.store ∧ s.startHoming.modes = s.modes ∧ s.startHoming.pins = s.pins ∧
    s.startHoming.pending = s.pending := 
  ⟨foldl_frame State.table _ (fun s a => by simp) _ s,
   foldl_frame State.register _ (fun s a => by simp) _ s,
   foldl_frame State.climate _ (fun s a => by simp) _ s,
   foldl_frame State.coolant _ (fun s a => by simp) _ s,
   foldl_frame State.air _ (fun s a => by simp) _ s,
   foldl_frame State.intake _ (fun s a => by simp) _ s,
   foldl_frame State.scanner _ (fun s a => by simp) _ s,
   foldl_frame State.fans _ (fun s a => by simp) _ s,
   foldl_frame State.link _ (fun s a => by simp) _ s,
   foldl_frame State.store _ (fun s a => by simp) _ s,
   foldl_frame State.modes _ (fun s a => by simp) _ s,
   foldl_frame State.pins _ (fun s a => by simp) _ s,
   foldl_frame State.pending _ (fun s a => by simp) _ s⟩

@[simp] theorem State.monitorPosts_frame :
    s.monitorPosts.climate = s.climate ∧ s.monitorPosts.coolant = s.coolant ∧ s.monitorPosts.air = s.air ∧
    s.monitorPosts.intake = s.intake ∧ s.monitorPosts.scanner = s.scanner ∧ s.monitorPosts.drive = s.drive ∧
    s.monitorPosts.fans = s.fans ∧ s.monitorPosts.store = s.store ∧ s.monitorPosts.modes = s.modes ∧
    s.monitorPosts.pins = s.pins ∧ s.monitorPosts.pending = s.pending := by
  simp only [State.monitorPosts]; (repeat' split) <;> simp

@[simp] theorem State.enterHoming_frame :
    s.enterHoming.climate = s.climate ∧ s.enterHoming.coolant = s.coolant ∧ s.enterHoming.air = s.air ∧
    s.enterHoming.intake = s.intake ∧ s.enterHoming.scanner = s.scanner ∧ s.enterHoming.fans = s.fans ∧
    s.enterHoming.store = s.store ∧ s.enterHoming.pins = s.pins ∧ s.enterHoming.pending = s.pending := by
  simp [State.enterHoming]

@[simp] theorem State.enterRun_frame :
    s.enterRun.climate = s.climate ∧ s.enterRun.coolant = s.coolant ∧ s.enterRun.air = s.air ∧
    s.enterRun.intake = s.intake ∧ s.enterRun.scanner = s.scanner ∧ s.enterRun.drive = s.drive ∧
    s.enterRun.fans = s.fans ∧ s.enterRun.store = s.store ∧ s.enterRun.pins = s.pins ∧
    s.enterRun.pending = s.pending := by
  simp [State.enterRun]

@[simp] theorem State.enterParked_frame :
    s.enterParked.air = s.air ∧ s.enterParked.scanner = s.scanner ∧ s.enterParked.store = s.store ∧
    s.enterParked.pins = s.pins ∧ s.enterParked.pending = s.pending := by
  simp [State.enterParked]

@[simp] theorem State.homingCheck_frame :
    s.homingCheck.air = s.air ∧ s.homingCheck.scanner = s.scanner ∧ s.homingCheck.store = s.store ∧
    s.homingCheck.pins = s.pins ∧ s.homingCheck.pending = s.pending := by
  unfold State.homingCheck
  by_cases h : s.modes.mode = .homing ∧ s.allSettled = true
  · rw [if_pos h]
    by_cases k : s.modes.ignition = true
    · rw [if_pos k]; simp
    · rw [if_neg k]; simp
  · rw [if_neg h]; simp

@[simp] theorem State.ignitionChange_frame (on : Bool) :
    (s.ignitionChange on).air = s.air ∧ (s.ignitionChange on).scanner = s.scanner ∧
    (s.ignitionChange on).store = s.store ∧ (s.ignitionChange on).pins = s.pins ∧
    (s.ignitionChange on).pending = s.pending := by
  unfold State.ignitionChange
  split
  · simp
  · simp
  · by_cases h : s.homingFinished = true
    · rw [if_pos h]; simp
    · rw [if_neg h]; simp
  all_goals simp

@[simp] theorem State.debounceExpiry_frame :
    s.debounceExpiry.air = s.air ∧ s.debounceExpiry.scanner = s.scanner ∧ s.debounceExpiry.store = s.store ∧
    s.debounceExpiry.pins = s.pins ∧ s.debounceExpiry.pending = s.pending := by
  unfold State.debounceExpiry
  split
  · simp
  · by_cases h : s.modes.ignition = s.pins.ignition
    · simp [h]
    · simp [h]

@[simp] theorem State.sealIntake_frame :
    s.sealIntake.climate = s.climate ∧ s.sealIntake.coolant = s.coolant ∧ s.sealIntake.air = s.air ∧
    s.sealIntake.scanner = s.scanner ∧ s.sealIntake.fans = s.fans ∧ s.sealIntake.store = s.store ∧
    s.sealIntake.modes = s.modes ∧ s.sealIntake.pins = s.pins ∧ s.sealIntake.pending = s.pending := by
  simp only [State.sealIntake]; (repeat' split) <;> simp

@[simp] theorem State.setContamination_frame (c : Contamination) :
    (s.setContamination c).climate = s.climate ∧ (s.setContamination c).coolant = s.coolant ∧
    (s.setContamination c).scanner = s.scanner ∧ (s.setContamination c).fans = s.fans ∧
    (s.setContamination c).store = s.store ∧ (s.setContamination c).modes = s.modes ∧
    (s.setContamination c).pins = s.pins ∧ (s.setContamination c).pending = s.pending := by
  simp only [State.setContamination]; (repeat' split) <;> simp

@[simp] theorem State.startEvaluation_frame :
    s.startEvaluation.climate = s.climate ∧ s.startEvaluation.coolant = s.coolant ∧
    s.startEvaluation.scanner = s.scanner ∧ s.startEvaluation.fans = s.fans ∧
    s.startEvaluation.store = s.store ∧ s.startEvaluation.modes = s.modes ∧ s.startEvaluation.pins = s.pins ∧
    s.startEvaluation.pending = s.pending := by
  simp only [State.startEvaluation]; (repeat' split) <;> simp

@[simp] theorem State.judgeAir_frame :
    s.judgeAir.climate = s.climate ∧ s.judgeAir.coolant = s.coolant ∧ s.judgeAir.scanner = s.scanner ∧
    s.judgeAir.fans = s.fans ∧ s.judgeAir.store = s.store ∧ s.judgeAir.modes = s.modes ∧
    s.judgeAir.pins = s.pins ∧ s.judgeAir.pending = s.pending := by
  simp only [State.judgeAir]; (repeat' split) <;> simp

@[simp] theorem State.afterReading_frame :
    s.afterReading.climate = s.climate ∧ s.afterReading.coolant = s.coolant ∧
    s.afterReading.scanner = s.scanner ∧ s.afterReading.fans = s.fans ∧ s.afterReading.store = s.store ∧
    s.afterReading.modes = s.modes ∧ s.afterReading.pins = s.pins ∧ s.afterReading.pending = s.pending := by
  simp only [State.afterReading]; (repeat' split) <;> simp

@[simp] theorem State.onIntakeCo_frame (a : Arrival) :
    (s.onIntakeCo a).climate = s.climate ∧ (s.onIntakeCo a).coolant = s.coolant ∧
    (s.onIntakeCo a).scanner = s.scanner ∧ (s.onIntakeCo a).fans = s.fans ∧ (s.onIntakeCo a).store = s.store ∧
    (s.onIntakeCo a).modes = s.modes ∧ (s.onIntakeCo a).pins = s.pins ∧ (s.onIntakeCo a).pending = s.pending := by
  simp only [State.onIntakeCo]; (repeat' split) <;> simp

@[simp] theorem State.onIntakeParticulate_frame (a : Arrival) :
    (s.onIntakeParticulate a).climate = s.climate ∧ (s.onIntakeParticulate a).coolant = s.coolant ∧
    (s.onIntakeParticulate a).scanner = s.scanner ∧ (s.onIntakeParticulate a).fans = s.fans ∧
    (s.onIntakeParticulate a).store = s.store ∧ (s.onIntakeParticulate a).modes = s.modes ∧
    (s.onIntakeParticulate a).pins = s.pins ∧ (s.onIntakeParticulate a).pending = s.pending := by
  simp only [State.onIntakeParticulate]; (repeat' split) <;> simp

@[simp] theorem State.raiseCabHigh_frame :
    s.raiseCabHigh.climate = s.climate ∧ s.raiseCabHigh.coolant = s.coolant ∧ s.raiseCabHigh.intake = s.intake ∧
    s.raiseCabHigh.scanner = s.scanner ∧ s.raiseCabHigh.drive = s.drive ∧ s.raiseCabHigh.fans = s.fans ∧
    s.raiseCabHigh.store = s.store ∧ s.raiseCabHigh.modes = s.modes ∧ s.raiseCabHigh.pins = s.pins ∧
    s.raiseCabHigh.pending = s.pending := by
  simp only [State.raiseCabHigh]; (repeat' split) <;> simp

@[simp] theorem State.onCabCo_frame (a : Arrival) :
    (s.onCabCo a).climate = s.climate ∧ (s.onCabCo a).coolant = s.coolant ∧ (s.onCabCo a).intake = s.intake ∧
    (s.onCabCo a).scanner = s.scanner ∧ (s.onCabCo a).drive = s.drive ∧ (s.onCabCo a).fans = s.fans ∧
    (s.onCabCo a).store = s.store ∧ (s.onCabCo a).modes = s.modes ∧ (s.onCabCo a).pins = s.pins ∧
    (s.onCabCo a).pending = s.pending := by
  simp only [State.onCabCo]; (repeat' split) <;> simp

@[simp] theorem State.dwellExpiry_frame :
    s.dwellExpiry.climate = s.climate ∧ s.dwellExpiry.coolant = s.coolant ∧ s.dwellExpiry.scanner = s.scanner ∧
    s.dwellExpiry.fans = s.fans ∧ s.dwellExpiry.store = s.store ∧ s.dwellExpiry.modes = s.modes ∧
    s.dwellExpiry.pins = s.pins ∧ s.dwellExpiry.pending = s.pending := by
  simp only [State.dwellExpiry]; (repeat' split) <;> simp

@[simp] theorem State.clearHoldExpiry_frame :
    s.clearHoldExpiry.climate = s.climate ∧ s.clearHoldExpiry.coolant = s.coolant ∧
    s.clearHoldExpiry.scanner = s.scanner ∧ s.clearHoldExpiry.fans = s.fans ∧
    s.clearHoldExpiry.store = s.store ∧ s.clearHoldExpiry.modes = s.modes ∧ s.clearHoldExpiry.pins = s.pins ∧
    s.clearHoldExpiry.pending = s.pending := by
  simp only [State.clearHoldExpiry]; (repeat' split) <;> simp

@[simp] theorem State.cabClearExpiry_frame :
    s.cabClearExpiry.climate = s.climate ∧ s.cabClearExpiry.coolant = s.coolant ∧
    s.cabClearExpiry.intake = s.intake ∧ s.cabClearExpiry.scanner = s.scanner ∧
    s.cabClearExpiry.drive = s.drive ∧ s.cabClearExpiry.fans = s.fans ∧ s.cabClearExpiry.link = s.link ∧
    s.cabClearExpiry.store = s.store ∧ s.cabClearExpiry.modes = s.modes ∧ s.cabClearExpiry.pins = s.pins ∧
    s.cabClearExpiry.pending = s.pending := by
  simp only [State.cabClearExpiry]; (repeat' split) <;> simp

@[simp] theorem State.onVoltage_frame (a : Arrival) :
    (s.onVoltage a).table = s.table ∧ (s.onVoltage a).register = s.register ∧
    (s.onVoltage a).coolant = s.coolant ∧ (s.onVoltage a).air = s.air ∧ (s.onVoltage a).intake = s.intake ∧
    (s.onVoltage a).scanner = s.scanner ∧ (s.onVoltage a).drive = s.drive ∧ (s.onVoltage a).fans = s.fans ∧
    (s.onVoltage a).link = s.link ∧ (s.onVoltage a).store = s.store ∧ (s.onVoltage a).modes = s.modes ∧
    (s.onVoltage a).pins = s.pins ∧ (s.onVoltage a).pending = s.pending := by
  simp [State.onVoltage]

@[simp] theorem State.onCold_frame (a : Arrival) :
    (s.onCold a).table = s.table ∧ (s.onCold a).register = s.register ∧ (s.onCold a).climate = s.climate ∧
    (s.onCold a).air = s.air ∧ (s.onCold a).intake = s.intake ∧ (s.onCold a).scanner = s.scanner ∧
    (s.onCold a).drive = s.drive ∧ (s.onCold a).fans = s.fans ∧ (s.onCold a).link = s.link ∧
    (s.onCold a).store = s.store ∧ (s.onCold a).modes = s.modes ∧ (s.onCold a).pins = s.pins ∧
    (s.onCold a).pending = s.pending := by
  simp [State.onCold]

@[simp] theorem State.onOutside_frame (a : Arrival) :
    (s.onOutside a).table = s.table ∧ (s.onOutside a).register = s.register ∧
    (s.onOutside a).climate = s.climate ∧ (s.onOutside a).air = s.air ∧ (s.onOutside a).intake = s.intake ∧
    (s.onOutside a).scanner = s.scanner ∧ (s.onOutside a).drive = s.drive ∧ (s.onOutside a).fans = s.fans ∧
    (s.onOutside a).link = s.link ∧ (s.onOutside a).store = s.store ∧ (s.onOutside a).modes = s.modes ∧
    (s.onOutside a).pins = s.pins ∧ (s.onOutside a).pending = s.pending := by
  simp [State.onOutside]

@[simp] theorem State.deliver_frame (c : ChannelId) (a : Arrival) :
    (s.deliver c a).scanner = s.scanner ∧ (s.deliver c a).fans = s.fans ∧ (s.deliver c a).store = s.store ∧
    (s.deliver c a).modes = s.modes ∧ (s.deliver c a).pins = s.pins ∧ (s.deliver c a).pending = s.pending := by
  simp only [State.deliver]; (repeat' split) <;> simp

@[simp] theorem State.convert_frame (c : ChannelId) (raw : BitVec 12) :
    (s.convert c raw).fans = s.fans ∧ (s.convert c raw).store = s.store ∧ (s.convert c raw).modes = s.modes ∧
    (s.convert c raw).pins = s.pins ∧ (s.convert c raw).pending = s.pending := by
  simp [State.convert]

@[simp] theorem State.setRecState_frame (n : Slot) (st : RecState) :
    (s.setRecState n st).climate = s.climate ∧ (s.setRecState n st).coolant = s.coolant ∧
    (s.setRecState n st).air = s.air ∧ (s.setRecState n st).intake = s.intake ∧
    (s.setRecState n st).scanner = s.scanner ∧ (s.setRecState n st).drive = s.drive ∧
    (s.setRecState n st).fans = s.fans ∧ (s.setRecState n st).store = s.store ∧
    (s.setRecState n st).modes = s.modes ∧ (s.setRecState n st).pins = s.pins ∧
    (s.setRecState n st).pending = s.pending := by
  simp only [State.setRecState]; (repeat' split) <;> simp

@[simp] theorem State.judgeIntake_frame (st : RecState) :
    (s.judgeIntake st).climate = s.climate ∧ (s.judgeIntake st).coolant = s.coolant ∧
    (s.judgeIntake st).air = s.air ∧ (s.judgeIntake st).intake = s.intake ∧
    (s.judgeIntake st).scanner = s.scanner ∧ (s.judgeIntake st).drive = s.drive ∧
    (s.judgeIntake st).fans = s.fans ∧ (s.judgeIntake st).store = s.store ∧ (s.judgeIntake st).modes = s.modes ∧
    (s.judgeIntake st).pins = s.pins ∧ (s.judgeIntake st).pending = s.pending := by
  unfold State.judgeIntake; split
  · simp
  · exact ⟨(foldl_frame State.climate _ (fun s a => by simp) _ _).trans (by simp),
     (foldl_frame State.coolant _ (fun s a => by simp) _ _).trans (by simp),
     (foldl_frame State.air _ (fun s a => by simp) _ _).trans (by simp),
     (foldl_frame State.intake _ (fun s a => by simp) _ _).trans (by simp),
     (foldl_frame State.scanner _ (fun s a => by simp) _ _).trans (by simp),
     (foldl_frame State.drive _ (fun s a => by simp) _ _).trans (by simp),
     (foldl_frame State.fans _ (fun s a => by simp) _ _).trans (by simp),
     (foldl_frame State.store _ (fun s a => by simp) _ _).trans (by simp),
     (foldl_frame State.modes _ (fun s a => by simp) _ _).trans (by simp),
     (foldl_frame State.pins _ (fun s a => by simp) _ _).trans (by simp),
     (foldl_frame State.pending _ (fun s a => by simp) _ _).trans (by simp)⟩

@[simp] theorem State.handFan_frame :
    s.handFan.table = s.table ∧ s.handFan.register = s.register ∧ s.handFan.climate = s.climate ∧
    s.handFan.coolant = s.coolant ∧ s.handFan.air = s.air ∧ s.handFan.scanner = s.scanner ∧
    s.handFan.drive = s.drive ∧ s.handFan.link = s.link ∧ s.handFan.store = s.store ∧
    s.handFan.modes = s.modes ∧ s.handFan.pins = s.pins ∧ s.handFan.pending = s.pending := by
  simp [State.handFan]

@[simp] theorem State.boostHand_frame :
    s.boostHand.table = s.table ∧ s.boostHand.register = s.register ∧ s.boostHand.climate = s.climate ∧
    s.boostHand.coolant = s.coolant ∧ s.boostHand.air = s.air ∧ s.boostHand.scanner = s.scanner ∧
    s.boostHand.drive = s.drive ∧ s.boostHand.link = s.link ∧ s.boostHand.store = s.store ∧
    s.boostHand.modes = s.modes ∧ s.boostHand.pins = s.pins ∧ s.boostHand.pending = s.pending := by
  simp only [State.boostHand]; (repeat' split) <;> simp

@[simp] theorem State.computeIntake_frame :
    s.computeIntake.climate = s.climate ∧ s.computeIntake.coolant = s.coolant ∧ s.computeIntake.air = s.air ∧
    s.computeIntake.scanner = s.scanner ∧ s.computeIntake.store = s.store ∧ s.computeIntake.modes = s.modes ∧
    s.computeIntake.pins = s.pins ∧ s.computeIntake.pending = s.pending := by
  simp [State.computeIntake]

@[simp] theorem State.doorChange_frame (d : Fin 6) (o : Bool) :
    (s.doorChange d o).table = s.table ∧ (s.doorChange d o).register = s.register ∧
    (s.doorChange d o).climate = s.climate ∧ (s.doorChange d o).coolant = s.coolant ∧
    (s.doorChange d o).air = s.air ∧ (s.doorChange d o).scanner = s.scanner ∧
    (s.doorChange d o).drive = s.drive ∧ (s.doorChange d o).link = s.link ∧ (s.doorChange d o).store = s.store ∧
    (s.doorChange d o).modes = s.modes ∧ (s.doorChange d o).pending = s.pending := by
  simp only [State.doorChange]; (repeat' split) <;> simp

@[simp] theorem State.putServed_frame (n : Slot) (old new : Record) :
    (s.putServed n old new).climate = s.climate ∧ (s.putServed n old new).coolant = s.coolant ∧
    (s.putServed n old new).air = s.air ∧ (s.putServed n old new).intake = s.intake ∧
    (s.putServed n old new).scanner = s.scanner ∧ (s.putServed n old new).drive = s.drive ∧
    (s.putServed n old new).fans = s.fans ∧ (s.putServed n old new).store = s.store ∧
    (s.putServed n old new).modes = s.modes ∧ (s.putServed n old new).pins = s.pins ∧
    (s.putServed n old new).pending = s.pending := by
  simp only [State.putServed]; (repeat' split) <;> simp

@[simp] theorem State.putBehind_frame (n : Slot) :
    (s.putBehind n).climate = s.climate ∧ (s.putBehind n).coolant = s.coolant ∧ (s.putBehind n).air = s.air ∧
    (s.putBehind n).intake = s.intake ∧ (s.putBehind n).scanner = s.scanner ∧ (s.putBehind n).drive = s.drive ∧
    (s.putBehind n).fans = s.fans ∧ (s.putBehind n).store = s.store ∧ (s.putBehind n).modes = s.modes ∧
    (s.putBehind n).pins = s.pins ∧ (s.putBehind n).pending = s.pending := by
  simp only [State.putBehind]; (repeat' split) <;> simp

@[simp] theorem State.serveZone_frame (z : Zone) (p : ZonePlan) (g : Nat) :
    (s.serveZone z p g).coolant = s.coolant ∧ (s.serveZone z p g).air = s.air ∧
    (s.serveZone z p g).intake = s.intake ∧ (s.serveZone z p g).scanner = s.scanner ∧
    (s.serveZone z p g).drive = s.drive ∧ (s.serveZone z p g).fans = s.fans ∧
    (s.serveZone z p g).store = s.store ∧ (s.serveZone z p g).modes = s.modes ∧
    (s.serveZone z p g).pins = s.pins ∧ (s.serveZone z p g).pending = s.pending := by
  unfold State.serveZone
  exact ⟨(foldl_frame State.coolant _ (fun s a => by simp) _ _).trans (by split <;> simp),
   (foldl_frame State.air _ (fun s a => by simp) _ _).trans (by split <;> simp),
   (foldl_frame State.intake _ (fun s a => by simp) _ _).trans (by split <;> simp),
   (foldl_frame State.scanner _ (fun s a => by simp) _ _).trans (by split <;> simp),
   (foldl_frame State.drive _ (fun s a => by simp) _ _).trans (by split <;> simp),
   (foldl_frame State.fans _ (fun s a => by simp) _ _).trans (by split <;> simp),
   (foldl_frame State.store _ (fun s a => by simp) _ _).trans (by split <;> simp),
   (foldl_frame State.modes _ (fun s a => by simp) _ _).trans (by split <;> simp),
   (foldl_frame State.pins _ (fun s a => by simp) _ _).trans (by split <;> simp),
   (foldl_frame State.pending _ (fun s a => by simp) _ _).trans (by split <;> simp)⟩

@[simp] theorem State.allocate_frame :
    s.allocate.air = s.air ∧ s.allocate.intake = s.intake ∧ s.allocate.scanner = s.scanner ∧
    s.allocate.store = s.store ∧ s.allocate.modes = s.modes ∧ s.allocate.pins = s.pins ∧
    s.allocate.pending = s.pending := by
  unfold State.allocate
  simp only [State.handTargets_frame]
  exact ⟨foldl_frame State.air _ (fun s a => by simp) _ _,
   foldl_frame State.intake _ (fun s a => by simp) _ _,
   foldl_frame State.scanner _ (fun s a => by simp) _ _,
   foldl_frame State.store _ (fun s a => by simp) _ _,
   foldl_frame State.modes _ (fun s a => by simp) _ _,
   foldl_frame State.pins _ (fun s a => by simp) _ _,
   foldl_frame State.pending _ (fun s a => by simp) _ _⟩

@[simp] theorem State.recomputeSupply_frame :
    s.recomputeSupply.table = s.table ∧ s.recomputeSupply.register = s.register ∧
    s.recomputeSupply.air = s.air ∧ s.recomputeSupply.intake = s.intake ∧
    s.recomputeSupply.scanner = s.scanner ∧ s.recomputeSupply.drive = s.drive ∧
    s.recomputeSupply.fans = s.fans ∧ s.recomputeSupply.link = s.link ∧ s.recomputeSupply.store = s.store ∧
    s.recomputeSupply.modes = s.modes ∧ s.recomputeSupply.pins = s.pins ∧ s.recomputeSupply.pending = s.pending := by
  simp only [State.recomputeSupply]; (repeat' split) <;> simp

@[simp] theorem State.countFrame_frame (st : Station) :
    (s.countFrame st).table = s.table ∧ (s.countFrame st).climate = s.climate ∧
    (s.countFrame st).coolant = s.coolant ∧ (s.countFrame st).air = s.air ∧
    (s.countFrame st).intake = s.intake ∧ (s.countFrame st).scanner = s.scanner ∧
    (s.countFrame st).drive = s.drive ∧ (s.countFrame st).fans = s.fans ∧ (s.countFrame st).link = s.link ∧
    (s.countFrame st).store = s.store ∧ (s.countFrame st).modes = s.modes ∧ (s.countFrame st).pins = s.pins ∧
    (s.countFrame st).pending = s.pending := by
  simp only [State.countFrame]; (repeat' split) <;> simp

@[simp] theorem State.beginTake_frame (f : RxFrame) (rest : List RxFrame) (room : Nat) :
    (s.beginTake f rest room).table = s.table ∧ (s.beginTake f rest room).climate = s.climate ∧
    (s.beginTake f rest room).coolant = s.coolant ∧ (s.beginTake f rest room).air = s.air ∧
    (s.beginTake f rest room).intake = s.intake ∧ (s.beginTake f rest room).scanner = s.scanner ∧
    (s.beginTake f rest room).drive = s.drive ∧ (s.beginTake f rest room).fans = s.fans ∧
    (s.beginTake f rest room).store = s.store ∧ (s.beginTake f rest room).modes = s.modes ∧
    (s.beginTake f rest room).pins = s.pins ∧ (s.beginTake f rest room).pending = s.pending := by
  simp only [State.beginTake]; (repeat' split) <;> simp

@[simp] theorem State.placeAnswer_frame (f : RxFrame) (a : Answer) :
    (s.placeAnswer f a).table = s.table ∧ (s.placeAnswer f a).climate = s.climate ∧
    (s.placeAnswer f a).coolant = s.coolant ∧ (s.placeAnswer f a).air = s.air ∧
    (s.placeAnswer f a).intake = s.intake ∧ (s.placeAnswer f a).scanner = s.scanner ∧
    (s.placeAnswer f a).drive = s.drive ∧ (s.placeAnswer f a).fans = s.fans ∧
    (s.placeAnswer f a).store = s.store ∧ (s.placeAnswer f a).modes = s.modes ∧
    (s.placeAnswer f a).pins = s.pins ∧ (s.placeAnswer f a).pending = s.pending := by
  simp only [State.placeAnswer]; (repeat' split) <;> simp

@[simp] theorem State.countDownAll_frame :
    s.countDownAll.register = s.register ∧ s.countDownAll.climate = s.climate ∧
    s.countDownAll.coolant = s.coolant ∧ s.countDownAll.air = s.air ∧ s.countDownAll.intake = s.intake ∧
    s.countDownAll.scanner = s.scanner ∧ s.countDownAll.drive = s.drive ∧ s.countDownAll.fans = s.fans ∧
    s.countDownAll.link = s.link ∧ s.countDownAll.store = s.store ∧ s.countDownAll.modes = s.modes ∧
    s.countDownAll.pins = s.pins ∧ s.countDownAll.pending = s.pending := by
  simp [State.countDownAll]

@[simp] theorem State.repostPurge_frame (e : Bool) :
    (s.repostPurge e).climate = s.climate ∧ (s.repostPurge e).coolant = s.coolant ∧
    (s.repostPurge e).air = s.air ∧ (s.repostPurge e).intake = s.intake ∧
    (s.repostPurge e).scanner = s.scanner ∧ (s.repostPurge e).drive = s.drive ∧
    (s.repostPurge e).fans = s.fans ∧ (s.repostPurge e).store = s.store ∧ (s.repostPurge e).modes = s.modes ∧
    (s.repostPurge e).pins = s.pins ∧ (s.repostPurge e).pending = s.pending := by
  simp only [State.repostPurge]; (repeat' split) <;> simp

@[simp] theorem State.durationExpiry_frame :
    s.durationExpiry.climate = s.climate ∧ s.durationExpiry.coolant = s.coolant ∧ s.durationExpiry.air = s.air ∧
    s.durationExpiry.intake = s.intake ∧ s.durationExpiry.scanner = s.scanner ∧
    s.durationExpiry.drive = s.drive ∧ s.durationExpiry.fans = s.fans ∧ s.durationExpiry.store = s.store ∧
    s.durationExpiry.modes = s.modes ∧ s.durationExpiry.pins = s.pins ∧ s.durationExpiry.pending = s.pending := by
  simp [State.durationExpiry]

@[simp] theorem State.freeLocksOf_frame (st : Station) :
    (s.freeLocksOf st).table = s.table ∧ (s.freeLocksOf st).climate = s.climate ∧
    (s.freeLocksOf st).coolant = s.coolant ∧ (s.freeLocksOf st).air = s.air ∧
    (s.freeLocksOf st).intake = s.intake ∧ (s.freeLocksOf st).scanner = s.scanner ∧
    (s.freeLocksOf st).drive = s.drive ∧ (s.freeLocksOf st).fans = s.fans ∧ (s.freeLocksOf st).link = s.link ∧
    (s.freeLocksOf st).store = s.store ∧ (s.freeLocksOf st).modes = s.modes ∧ (s.freeLocksOf st).pins = s.pins ∧
    (s.freeLocksOf st).pending = s.pending := by
  simp [State.freeLocksOf]

@[simp] theorem State.lapse_frame (st : Station) :
    (s.lapse st).climate = s.climate ∧ (s.lapse st).coolant = s.coolant ∧ (s.lapse st).air = s.air ∧
    (s.lapse st).intake = s.intake ∧ (s.lapse st).scanner = s.scanner ∧ (s.lapse st).drive = s.drive ∧
    (s.lapse st).fans = s.fans ∧ (s.lapse st).store = s.store ∧ (s.lapse st).modes = s.modes ∧
    (s.lapse st).pins = s.pins ∧ (s.lapse st).pending = s.pending := by
  simp only [State.lapse]; (repeat' split) <;> simp

@[simp] theorem State.receive_frame (f : CanFrame) :
    (s.receive f).table = s.table ∧ (s.receive f).register = s.register ∧ (s.receive f).climate = s.climate ∧
    (s.receive f).coolant = s.coolant ∧ (s.receive f).air = s.air ∧ (s.receive f).intake = s.intake ∧
    (s.receive f).scanner = s.scanner ∧ (s.receive f).drive = s.drive ∧ (s.receive f).fans = s.fans ∧
    (s.receive f).store = s.store ∧ (s.receive f).modes = s.modes ∧ (s.receive f).pins = s.pins ∧
    (s.receive f).pending = s.pending := by
  simp only [State.receive]; (repeat' split) <;> simp

@[simp] theorem State.goOffline_frame :
    s.goOffline.table = s.table ∧ s.goOffline.climate = s.climate ∧ s.goOffline.coolant = s.coolant ∧
    s.goOffline.air = s.air ∧ s.goOffline.intake = s.intake ∧ s.goOffline.scanner = s.scanner ∧
    s.goOffline.drive = s.drive ∧ s.goOffline.fans = s.fans ∧ s.goOffline.store = s.store ∧
    s.goOffline.modes = s.modes ∧ s.goOffline.pins = s.pins ∧ s.goOffline.pending = s.pending := by
  simp [State.goOffline]

end Sys2Proof.Machine
end

