-- ==== Sys2Proof/Laws/Drive.lean ====
section
/-! SUPPORT. The actuator drive: reading after writing, how many motion channels an update leaves held, and all that each
shared operation on the drive can do. -/

namespace Sys2Proof.Machine

variable (d : ActuatorDrive) (a b : ActuatorId) (x : Actuator)

@[simp] theorem ActuatorDrive.act_setAct_same : (d.setAct a x).act a = x := by
  simp [ActuatorDrive.act, ActuatorDrive.setAct]

theorem ActuatorDrive.act_setAct : (d.setAct a x).act b = if b = a then x else d.act b := by
  by_cases h : b = a
  · subst h; simp
  · have h' : a.val ≠ b.val := fun e => h (Fin.ext e.symm)
    simp [ActuatorDrive.act, ActuatorDrive.setAct, h, h']

@[simp] theorem ActuatorDrive.setAct_queue : (d.setAct a x).queue = d.queue := rfl

/-- The actuators alone are read. -/
@[simp] theorem ActuatorDrive.act_withQueue (q : List ActuatorId) : ({ d with queue := q } : ActuatorDrive).act a = d.act a :=
  rfl
@[simp] theorem ActuatorDrive.busy_withQueue (q : List ActuatorId) : ({ d with queue := q } : ActuatorDrive).busy = d.busy :=
  rfl

/-- Counting after one entry of a list is replaced. -/
theorem countP_set_add {α : Type} (p : α → Bool) (l : List α) (i : Nat) (y : α) (h : i < l.length) :
    (l.set i y).countP p + (if p l[i] = true then 1 else 0) = l.countP p + (if p y = true then 1 else 0) := by
  induction l generalizing i with
  | nil => simp at h
  | cons z l ih =>
    cases i with
    | zero => simp [List.countP_cons]; omega
    | succ i =>
      have := ih i (by simpa using h)
      simp only [List.set_cons_succ, List.countP_cons, List.getElem_cons_succ]
      omega

/-- How many channels are held after one actuator is replaced (R153). -/
theorem ActuatorDrive.busy_setAct :
    (d.setAct a x).busy + (if (d.act a).inMotion = true then 1 else 0) =
      d.busy + (if x.inMotion = true then 1 else 0) := by
  have h := countP_set_add Actuator.inMotion d.actuators.toList a.val x (by simp)
  rw [← Vector.toList_set (h := by have := a.isLt; omega), Vector.getElem_toList] at h
  exact h

/-- All that taking a motion channel can do (R153). -/
theorem ActuatorDrive.takeChannel_cases :
    ((d.act a).state = .unhomed ∧ d.takeChannel a = d.setAct a ((d.act a).beginHoming .homing)) ∨
    ((d.act a).state = .ready ∧ d.takeChannel a = d.setAct a { d.act a with state := .moving }) ∨
    ((d.act a).state ≠ .unhomed ∧ (d.act a).state ≠ .ready ∧ d.takeChannel a = d) := by
  unfold ActuatorDrive.takeChannel
  cases h : (d.act a).state <;> simp [h]

/-- All that needing motion can do (R153). -/
theorem ActuatorDrive.needMotion_cases :
    (d.busy < 6 ∧ d.needMotion a = d.takeChannel a) ∨
    (6 ≤ d.busy ∧ a ∈ d.queue ∧ d.needMotion a = d) ∨
    (6 ≤ d.busy ∧ a ∉ d.queue ∧ d.needMotion a = { d with queue := d.queue ++ [a] }) := by
  unfold ActuatorDrive.needMotion
  by_cases h : d.busy < 6
  · exact .inl ⟨h, if_pos h⟩
  · have h6 : 6 ≤ d.busy := by omega
    by_cases w : a ∈ d.queue
    · exact .inr (.inl ⟨h6, w, by simp [Config.motionChannels, h, ActuatorDrive.waiting, w]⟩)
    · exact .inr (.inr ⟨h6, w, by simp [Config.motionChannels, h, ActuatorDrive.waiting, w]⟩)

/-- All that freeing a channel can do (R153). -/
theorem ActuatorDrive.handOver_cases :
    (d.queue = [] ∧ d.handOver = d) ∨
    (∃ c rest, d.queue = c :: rest ∧ d.handOver = ({ d with queue := rest } : ActuatorDrive).takeChannel c) := by
  unfold ActuatorDrive.handOver
  cases h : d.queue with
  | nil => exact .inl ⟨rfl, rfl⟩
  | cons c rest => exact .inr ⟨c, rest, rfl, rfl⟩

variable (s : State)

/-- All that handing a target to an actuator of the machine can do (R149, R155). -/
theorem State.handTarget_cases (t : Nat) :
    (s.actPresent a = false ∧ s.handTarget a t = s) ∨
    (s.actPresent a = true ∧ s.handTarget a t = { s with drive := s.drive.handTarget a t }) := by
  unfold State.handTarget
  cases h : s.actPresent a
  · exact .inl ⟨rfl, rfl⟩
  · exact .inr ⟨rfl, rfl⟩

/-- Which actuators are present depends on the live layout alone (R149). -/
theorem State.actPresent_congr {s t : State} (h : t.store = s.store) : t.actPresent a = s.actPresent a := by
  simp [State.actPresent, h]

end Sys2Proof.Machine
end

