-- ==== Sys2Proof/Laws/Taking.lean ====
section
/-! SUPPORT. What taking a request can do, said once, and the frame of each request: the blocks that serving it leaves
as they were. -/

namespace Sys2Proof.Machine

variable (s : State)

/-- The link can take the head frame exactly when it is ONLINE, awaits no restart, and has the room (R166, R182). -/
theorem State.canTake_iff (n : Nat) : s.canTake n = true ↔
    s.link.state = .online ∧ s.link.restartAwaited = false ∧ s.link.tx.length + s.link.reserved + n ≤ 24 := by
  simp only [State.canTake, Bool.and_eq_true, beq_iff_eq, Bool.not_eq_true', decide_eq_true_iff, and_assoc]
  exact Iff.rfl

/-- The link once the head frame is removed and its answer's room reserved (R166). -/
@[simp] theorem State.beginTake_link (f : RxFrame) (rest : List RxFrame) (n : Nat) :
    (s.beginTake f rest n).link = { s.link with rx := rest, reserved := n } := by
  unfold State.beginTake; simp only; split <;> simp [State.countFrame]

/-- The link once the answer is placed (R166, R167). -/
@[simp] theorem State.placeAnswer_link (f : RxFrame) (a : Answer) :
    (s.placeAnswer f a).link = { s.link with tx := s.link.tx ++ s.answerFrames f a, reserved := 0 } := by
  unfold State.placeAnswer; simp only; split <;> simp

/-- An answer has one frame for each of its parts (R167). -/
@[simp] theorem State.answerFrames_length (f : RxFrame) (a : Answer) :
    (s.answerFrames f a).length = a.parts.length := by
  simp [State.answerFrames]

/-- All that a request row can do: nothing, or the taking of the head frame (R166). -/
theorem State.take_cases (accepts : RxFrame → Bool) (room : RxFrame → Nat) (serve : State → RxFrame → State × Answer) :
    s.take accepts room serve = s ∨
    ∃ f rest, s.link.rx = f :: rest ∧ accepts f = true ∧ s.canTake (room f) = true ∧
      s.take accepts room serve =
        (serve (s.beginTake f rest (room f)) f).1.placeAnswer f (serve (s.beginTake f rest (room f)) f).2 := by
  unfold State.take
  split
  · exact .inl rfl
  · rename_i f rest h
    by_cases k : accepts f = true ∧ s.canTake (room f) = true
    · exact .inr ⟨f, rest, h, k.1, k.2, by rw [if_pos k]⟩
    · exact .inl (by rw [if_neg k])

/-- The taking of a head frame that the row accepts and the link can take. -/
theorem State.take_head {accepts : RxFrame → Bool} {room : RxFrame → Nat} {serve : State → RxFrame → State × Answer}
    {s : State} {f : RxFrame} {rest : List RxFrame} (h : s.link.rx = f :: rest) (a : accepts f = true)
    (c : s.canTake (room f) = true) :
    s.take accepts room serve =
      (serve (s.beginTake f rest (room f)) f).1.placeAnswer f (serve (s.beginTake f rest (room f)) f).2 := by
  simp [State.take, h, a, c]

/-- What serving a request leaves as it is, its taking leaves as it is. -/
theorem State.take_keeps {β : Type} (g : State → β) (accepts : RxFrame → Bool) (room : RxFrame → Nat)
    (serve : State → RxFrame → State × Answer) (hb : ∀ s f rest n, g (State.beginTake s f rest n) = g s)
    (hp : ∀ s f a, g (State.placeAnswer s f a) = g s) (hs : ∀ s f, g (serve s f).1 = g s) :
    g (s.take accepts room serve) = g s := by
  rcases s.take_cases accepts room serve with h | ⟨f, rest, _, _, _, h⟩
  · rw [h]
  · rw [h, hp, hs, hb]

/-- A withdrawal touches the table and the register alone. -/
@[simp] theorem State.withdraw_frame (n : Slot) :
    (s.withdraw n).1.climate = s.climate ∧
    (s.withdraw n).1.coolant = s.coolant ∧
    (s.withdraw n).1.air = s.air ∧
    (s.withdraw n).1.intake = s.intake ∧
    (s.withdraw n).1.scanner = s.scanner ∧
    (s.withdraw n).1.drive = s.drive ∧
    (s.withdraw n).1.fans = s.fans ∧
    (s.withdraw n).1.link = s.link ∧
    (s.withdraw n).1.store = s.store ∧
    (s.withdraw n).1.modes = s.modes ∧
    (s.withdraw n).1.pins = s.pins ∧
    (s.withdraw n).1.pending = s.pending := by
  simp [State.withdraw]

@[simp] theorem State.servePost_frame (f : RxFrame) :
    (s.servePost f).1.climate = s.climate ∧ (s.servePost f).1.coolant = s.coolant ∧
    (s.servePost f).1.air = s.air ∧ (s.servePost f).1.intake = s.intake ∧
    (s.servePost f).1.scanner = s.scanner ∧ (s.servePost f).1.drive = s.drive ∧
    (s.servePost f).1.fans = s.fans ∧ (s.servePost f).1.store = s.store ∧ (s.servePost f).1.modes = s.modes ∧
    (s.servePost f).1.pins = s.pins ∧ (s.servePost f).1.pending = s.pending := by
  simp only [State.servePost]; (repeat' split) <;> simp

@[simp] theorem State.serveWithdrawKey_frame (f : RxFrame) :
    (s.serveWithdrawKey f).1.climate = s.climate ∧ (s.serveWithdrawKey f).1.coolant = s.coolant ∧
    (s.serveWithdrawKey f).1.air = s.air ∧ (s.serveWithdrawKey f).1.intake = s.intake ∧
    (s.serveWithdrawKey f).1.scanner = s.scanner ∧ (s.serveWithdrawKey f).1.drive = s.drive ∧
    (s.serveWithdrawKey f).1.fans = s.fans ∧ (s.serveWithdrawKey f).1.link = s.link ∧
    (s.serveWithdrawKey f).1.store = s.store ∧ (s.serveWithdrawKey f).1.modes = s.modes ∧
    (s.serveWithdrawKey f).1.pins = s.pins ∧ (s.serveWithdrawKey f).1.pending = s.pending := by
  simp only [State.serveWithdrawKey]; (repeat' split) <;> simp

@[simp] theorem State.serveWithdrawSlot_frame (f : RxFrame) :
    (s.serveWithdrawSlot f).1.climate = s.climate ∧ (s.serveWithdrawSlot f).1.coolant = s.coolant ∧
    (s.serveWithdrawSlot f).1.air = s.air ∧ (s.serveWithdrawSlot f).1.intake = s.intake ∧
    (s.serveWithdrawSlot f).1.scanner = s.scanner ∧ (s.serveWithdrawSlot f).1.drive = s.drive ∧
    (s.serveWithdrawSlot f).1.fans = s.fans ∧ (s.serveWithdrawSlot f).1.link = s.link ∧
    (s.serveWithdrawSlot f).1.store = s.store ∧ (s.serveWithdrawSlot f).1.modes = s.modes ∧
    (s.serveWithdrawSlot f).1.pins = s.pins ∧ (s.serveWithdrawSlot f).1.pending = s.pending := by
  simp only [State.serveWithdrawSlot]; (repeat' split) <;> simp

@[simp] theorem State.serveLookupKey_frame (f : RxFrame) :
    (s.serveLookupKey f).1.table = s.table ∧ (s.serveLookupKey f).1.register = s.register ∧
    (s.serveLookupKey f).1.climate = s.climate ∧ (s.serveLookupKey f).1.coolant = s.coolant ∧
    (s.serveLookupKey f).1.air = s.air ∧ (s.serveLookupKey f).1.intake = s.intake ∧
    (s.serveLookupKey f).1.scanner = s.scanner ∧ (s.serveLookupKey f).1.drive = s.drive ∧
    (s.serveLookupKey f).1.fans = s.fans ∧ (s.serveLookupKey f).1.link = s.link ∧
    (s.serveLookupKey f).1.store = s.store ∧ (s.serveLookupKey f).1.modes = s.modes ∧
    (s.serveLookupKey f).1.pins = s.pins ∧ (s.serveLookupKey f).1.pending = s.pending := by
  simp only [State.serveLookupKey]; (repeat' split) <;> simp

@[simp] theorem State.serveLookupSlot_frame (f : RxFrame) :
    (s.serveLookupSlot f).1.table = s.table ∧ (s.serveLookupSlot f).1.register = s.register ∧
    (s.serveLookupSlot f).1.climate = s.climate ∧ (s.serveLookupSlot f).1.coolant = s.coolant ∧
    (s.serveLookupSlot f).1.air = s.air ∧ (s.serveLookupSlot f).1.intake = s.intake ∧
    (s.serveLookupSlot f).1.scanner = s.scanner ∧ (s.serveLookupSlot f).1.drive = s.drive ∧
    (s.serveLookupSlot f).1.fans = s.fans ∧ (s.serveLookupSlot f).1.link = s.link ∧
    (s.serveLookupSlot f).1.store = s.store ∧ (s.serveLookupSlot f).1.modes = s.modes ∧
    (s.serveLookupSlot f).1.pins = s.pins ∧ (s.serveLookupSlot f).1.pending = s.pending := by
  simp only [State.serveLookupSlot]; (repeat' split) <;> simp

@[simp] theorem State.serveList_frame (f : RxFrame) :
    (s.serveList f).1.table = s.table ∧ (s.serveList f).1.register = s.register ∧
    (s.serveList f).1.climate = s.climate ∧ (s.serveList f).1.coolant = s.coolant ∧
    (s.serveList f).1.air = s.air ∧ (s.serveList f).1.intake = s.intake ∧
    (s.serveList f).1.scanner = s.scanner ∧ (s.serveList f).1.drive = s.drive ∧
    (s.serveList f).1.fans = s.fans ∧ (s.serveList f).1.link = s.link ∧ (s.serveList f).1.store = s.store ∧
    (s.serveList f).1.modes = s.modes ∧ (s.serveList f).1.pins = s.pins ∧ (s.serveList f).1.pending = s.pending := by
  simp only [State.serveList]; (repeat' split) <;> simp

@[simp] theorem State.serveRefresh_frame (f : RxFrame) :
    (s.serveRefresh f).1.table = s.table ∧ (s.serveRefresh f).1.climate = s.climate ∧
    (s.serveRefresh f).1.coolant = s.coolant ∧ (s.serveRefresh f).1.air = s.air ∧
    (s.serveRefresh f).1.intake = s.intake ∧ (s.serveRefresh f).1.scanner = s.scanner ∧
    (s.serveRefresh f).1.drive = s.drive ∧ (s.serveRefresh f).1.fans = s.fans ∧
    (s.serveRefresh f).1.link = s.link ∧ (s.serveRefresh f).1.store = s.store ∧
    (s.serveRefresh f).1.modes = s.modes ∧ (s.serveRefresh f).1.pins = s.pins ∧
    (s.serveRefresh f).1.pending = s.pending := by
  simp only [State.serveRefresh]; (repeat' split) <;> simp

@[simp] theorem State.serveLock_frame (f : RxFrame) :
    (s.serveLock f).1.table = s.table ∧ (s.serveLock f).1.climate = s.climate ∧
    (s.serveLock f).1.coolant = s.coolant ∧ (s.serveLock f).1.air = s.air ∧
    (s.serveLock f).1.intake = s.intake ∧ (s.serveLock f).1.scanner = s.scanner ∧
    (s.serveLock f).1.drive = s.drive ∧ (s.serveLock f).1.fans = s.fans ∧ (s.serveLock f).1.link = s.link ∧
    (s.serveLock f).1.store = s.store ∧ (s.serveLock f).1.modes = s.modes ∧ (s.serveLock f).1.pins = s.pins ∧
    (s.serveLock f).1.pending = s.pending := by
  simp only [State.serveLock]; (repeat' split) <;> simp

@[simp] theorem State.serveUnlock_frame (f : RxFrame) :
    (s.serveUnlock f).1.table = s.table ∧ (s.serveUnlock f).1.climate = s.climate ∧
    (s.serveUnlock f).1.coolant = s.coolant ∧ (s.serveUnlock f).1.air = s.air ∧
    (s.serveUnlock f).1.intake = s.intake ∧ (s.serveUnlock f).1.scanner = s.scanner ∧
    (s.serveUnlock f).1.drive = s.drive ∧ (s.serveUnlock f).1.fans = s.fans ∧
    (s.serveUnlock f).1.link = s.link ∧ (s.serveUnlock f).1.store = s.store ∧
    (s.serveUnlock f).1.modes = s.modes ∧ (s.serveUnlock f).1.pins = s.pins ∧
    (s.serveUnlock f).1.pending = s.pending := by
  simp only [State.serveUnlock]; (repeat' split) <;> simp

@[simp] theorem State.serveSupply_frame (f : RxFrame) :
    (s.serveSupply f).1.table = s.table ∧ (s.serveSupply f).1.climate = s.climate ∧
    (s.serveSupply f).1.coolant = s.coolant ∧ (s.serveSupply f).1.air = s.air ∧
    (s.serveSupply f).1.intake = s.intake ∧ (s.serveSupply f).1.scanner = s.scanner ∧
    (s.serveSupply f).1.drive = s.drive ∧ (s.serveSupply f).1.fans = s.fans ∧
    (s.serveSupply f).1.link = s.link ∧ (s.serveSupply f).1.store = s.store ∧
    (s.serveSupply f).1.modes = s.modes ∧ (s.serveSupply f).1.pins = s.pins ∧
    (s.serveSupply f).1.pending = s.pending := by
  simp only [State.serveSupply]; (repeat' split) <;> simp

@[simp] theorem State.serveBad_frame (f : RxFrame) :
    (s.serveBad f).1.table = s.table ∧ (s.serveBad f).1.register = s.register ∧
    (s.serveBad f).1.climate = s.climate ∧ (s.serveBad f).1.coolant = s.coolant ∧ (s.serveBad f).1.air = s.air ∧
    (s.serveBad f).1.intake = s.intake ∧ (s.serveBad f).1.scanner = s.scanner ∧
    (s.serveBad f).1.drive = s.drive ∧ (s.serveBad f).1.fans = s.fans ∧ (s.serveBad f).1.link = s.link ∧
    (s.serveBad f).1.store = s.store ∧ (s.serveBad f).1.modes = s.modes ∧ (s.serveBad f).1.pins = s.pins ∧
    (s.serveBad f).1.pending = s.pending := by
  simp [State.serveBad]

@[simp] theorem State.serveZonePage0_frame (f : RxFrame) :
    (s.serveZonePage0 f).1.table = s.table ∧ (s.serveZonePage0 f).1.register = s.register ∧
    (s.serveZonePage0 f).1.climate = s.climate ∧ (s.serveZonePage0 f).1.coolant = s.coolant ∧
    (s.serveZonePage0 f).1.air = s.air ∧ (s.serveZonePage0 f).1.intake = s.intake ∧
    (s.serveZonePage0 f).1.scanner = s.scanner ∧ (s.serveZonePage0 f).1.drive = s.drive ∧
    (s.serveZonePage0 f).1.fans = s.fans ∧ (s.serveZonePage0 f).1.link = s.link ∧
    (s.serveZonePage0 f).1.store = s.store ∧ (s.serveZonePage0 f).1.modes = s.modes ∧
    (s.serveZonePage0 f).1.pins = s.pins ∧ (s.serveZonePage0 f).1.pending = s.pending := by
  simp only [State.serveZonePage0]; (repeat' split) <;> simp

@[simp] theorem State.serveZonePage1_frame (f : RxFrame) :
    (s.serveZonePage1 f).1.table = s.table ∧ (s.serveZonePage1 f).1.register = s.register ∧
    (s.serveZonePage1 f).1.climate = s.climate ∧ (s.serveZonePage1 f).1.coolant = s.coolant ∧
    (s.serveZonePage1 f).1.air = s.air ∧ (s.serveZonePage1 f).1.intake = s.intake ∧
    (s.serveZonePage1 f).1.scanner = s.scanner ∧ (s.serveZonePage1 f).1.drive = s.drive ∧
    (s.serveZonePage1 f).1.fans = s.fans ∧ (s.serveZonePage1 f).1.link = s.link ∧
    (s.serveZonePage1 f).1.store = s.store ∧ (s.serveZonePage1 f).1.modes = s.modes ∧
    (s.serveZonePage1 f).1.pins = s.pins ∧ (s.serveZonePage1 f).1.pending = s.pending := by
  simp only [State.serveZonePage1]; (repeat' split) <;> simp

@[simp] theorem State.servePlant_frame (f : RxFrame) :
    (s.servePlant f).1.table = s.table ∧ (s.servePlant f).1.register = s.register ∧
    (s.servePlant f).1.climate = s.climate ∧ (s.servePlant f).1.coolant = s.coolant ∧
    (s.servePlant f).1.air = s.air ∧ (s.servePlant f).1.intake = s.intake ∧
    (s.servePlant f).1.scanner = s.scanner ∧ (s.servePlant f).1.drive = s.drive ∧
    (s.servePlant f).1.fans = s.fans ∧ (s.servePlant f).1.store = s.store ∧ (s.servePlant f).1.modes = s.modes ∧
    (s.servePlant f).1.pins = s.pins ∧ (s.servePlant f).1.pending = s.pending := by
  simp [State.servePlant]

@[simp] theorem State.serveLayoutRead_frame (f : RxFrame) :
    (s.serveLayoutRead f).1.table = s.table ∧ (s.serveLayoutRead f).1.register = s.register ∧
    (s.serveLayoutRead f).1.climate = s.climate ∧ (s.serveLayoutRead f).1.coolant = s.coolant ∧
    (s.serveLayoutRead f).1.air = s.air ∧ (s.serveLayoutRead f).1.intake = s.intake ∧
    (s.serveLayoutRead f).1.scanner = s.scanner ∧ (s.serveLayoutRead f).1.drive = s.drive ∧
    (s.serveLayoutRead f).1.fans = s.fans ∧ (s.serveLayoutRead f).1.link = s.link ∧
    (s.serveLayoutRead f).1.store = s.store ∧ (s.serveLayoutRead f).1.modes = s.modes ∧
    (s.serveLayoutRead f).1.pins = s.pins ∧ (s.serveLayoutRead f).1.pending = s.pending := by
  simp only [State.serveLayoutRead]; (repeat' split) <;> simp

@[simp] theorem State.serveLayoutWrite_frame (f : RxFrame) :
    (s.serveLayoutWrite f).1.table = s.table ∧ (s.serveLayoutWrite f).1.register = s.register ∧
    (s.serveLayoutWrite f).1.climate = s.climate ∧ (s.serveLayoutWrite f).1.coolant = s.coolant ∧
    (s.serveLayoutWrite f).1.air = s.air ∧ (s.serveLayoutWrite f).1.intake = s.intake ∧
    (s.serveLayoutWrite f).1.scanner = s.scanner ∧ (s.serveLayoutWrite f).1.drive = s.drive ∧
    (s.serveLayoutWrite f).1.fans = s.fans ∧ (s.serveLayoutWrite f).1.link = s.link ∧
    (s.serveLayoutWrite f).1.modes = s.modes ∧ (s.serveLayoutWrite f).1.pins = s.pins ∧
    (s.serveLayoutWrite f).1.pending = s.pending := by
  simp only [State.serveLayoutWrite]; (repeat' split) <;> simp

@[simp] theorem State.serveLayoutStore_frame (f : RxFrame) :
    (s.serveLayoutStore f).1.table = s.table ∧ (s.serveLayoutStore f).1.register = s.register ∧
    (s.serveLayoutStore f).1.climate = s.climate ∧ (s.serveLayoutStore f).1.coolant = s.coolant ∧
    (s.serveLayoutStore f).1.air = s.air ∧ (s.serveLayoutStore f).1.intake = s.intake ∧
    (s.serveLayoutStore f).1.scanner = s.scanner ∧ (s.serveLayoutStore f).1.drive = s.drive ∧
    (s.serveLayoutStore f).1.fans = s.fans ∧ (s.serveLayoutStore f).1.link = s.link ∧
    (s.serveLayoutStore f).1.modes = s.modes ∧ (s.serveLayoutStore f).1.pins = s.pins ∧
    (s.serveLayoutStore f).1.pending = s.pending := by
  simp only [State.serveLayoutStore]; (repeat' split) <;> simp

@[simp] theorem State.serveRestart_frame (f : RxFrame) :
    (s.serveRestart f).1.table = s.table ∧ (s.serveRestart f).1.register = s.register ∧
    (s.serveRestart f).1.climate = s.climate ∧ (s.serveRestart f).1.coolant = s.coolant ∧
    (s.serveRestart f).1.air = s.air ∧ (s.serveRestart f).1.intake = s.intake ∧
    (s.serveRestart f).1.scanner = s.scanner ∧ (s.serveRestart f).1.drive = s.drive ∧
    (s.serveRestart f).1.fans = s.fans ∧ (s.serveRestart f).1.store = s.store ∧
    (s.serveRestart f).1.modes = s.modes ∧ (s.serveRestart f).1.pins = s.pins ∧
    (s.serveRestart f).1.pending = s.pending := by
  simp only [State.serveRestart]; (repeat' split) <;> simp

end Sys2Proof.Machine
end

