-- ==== Sys2Proof/Laws/Link.lean ====
section
/-! SUPPORT. What notices do to the link, said once: they add frames at the tail of the outgoing queue while the link is
ONLINE and the places used or reserved stay at 17 or fewer, and change nothing else (R169). -/

namespace Sys2Proof.Machine

/-- The link after notices alone. -/
structure Link.Grew (l m : Link) : Prop where
  state : m.state = l.state
  busOff : m.busOff = l.busOff
  rx : m.rx = l.rx
  overrun : m.overrun = l.overrun
  reserved : m.reserved = l.reserved
  restart : m.restartAwaited = l.restartAwaited
  tx : ∃ fs, m.tx = l.tx ++ fs ∧ (fs ≠ [] → l.state = .online ∧ m.tx.length + m.reserved ≤ 17)

theorem Link.Grew.refl (l : Link) : l.Grew l := ⟨rfl, rfl, rfl, rfl, rfl, rfl, [], by simp⟩

theorem Link.Grew.of_eq {l m : Link} (h : m = l) : l.Grew m := by rw [h]; exact .refl l

theorem Link.Grew.trans {l m n : Link} (h : l.Grew m) (k : m.Grew n) : l.Grew n := by
  obtain ⟨a, b, c, d, e, f, fs, hf, hr⟩ := h
  obtain ⟨a', b', c', d', e', f', gs, hg, hs⟩ := k
  refine ⟨a'.trans a, b'.trans b, c'.trans c, d'.trans d, e'.trans e, f'.trans f, fs ++ gs, by simp [hg, hf], ?_⟩
  intro hne
  by_cases hgs : gs = []
  · subst hgs
    have := hr (by simpa using hne)
    simp only [List.append_nil] at hg
    rw [e', hg]; exact ⟨this.1, this.2⟩
  · have := hs hgs
    exact ⟨a ▸ this.1, this.2⟩

/-- A fold of operations that hand notices hands notices. -/
theorem Link.Grew.foldl {α : Type} (f : State → α → State) (h : ∀ (s : State) a, s.link.Grew (f s a).link) (l : List α)
    (s : State) : s.link.Grew (l.foldl f s).link := by
  induction l generalizing s with
  | nil => exact .refl _
  | cons a l ih => exact (h s a).trans (ih _)

variable (s : State)

theorem State.handNotice_grew (st : Station) (c : Category) (d : Vector Byte 8) :
    s.link.Grew (s.handNotice st c d).link := by
  rcases s.handNotice_link st c d with h | ⟨hr, h⟩
  · exact .of_eq h
  · rw [h]
    simp only [State.noticeRoom, Bool.and_eq_true, beq_iff_eq, decide_eq_true_iff] at hr
    obtain ⟨h1, h2⟩ := hr
    have h3 : s.link.tx.length + s.link.reserved ≤ 16 := h2
    exact ⟨rfl, rfl, rfl, rfl, rfl, rfl, [_], rfl, fun _ => ⟨h1, by simp; omega⟩⟩

theorem State.stateNotice_grew (n : Slot) : s.link.Grew (s.stateNotice n).link := by
  unfold State.stateNotice; split
  · exact .refl _
  · exact s.handNotice_grew _ _ _

theorem State.limitNotice_grew (n : Slot) : s.link.Grew (s.limitNotice n).link := by
  unfold State.limitNotice; split
  · exact .refl _
  · exact s.handNotice_grew _ _ _

theorem State.airNotices_grew (new old : Contamination) : s.link.Grew (s.airNotices new old).link := by
  refine .foldl _ (fun s a => ?_) _ s
  split
  · exact .refl _
  · exact s.handNotice_grew _ _ _

theorem State.displace_grew (n : Slot) : s.link.Grew (s.displace n).link := by
  rcases s.displace_cases n with h | ⟨r, _, _, h⟩ <;> rw [h]
  · exact .refl _
  · exact (Link.Grew.of_eq (by simp)).trans (State.stateNotice_grew _ n)

theorem State.insert_grew (n : Slot) (r : Record) : s.link.Grew (s.insert n r).link := by
  unfold State.insert
  simp only
  split
  · exact .of_eq (by simp)
  · split
    · exact .of_eq (by simp)
    · exact (Link.Grew.of_eq (by simp)).trans (State.displace_grew _ _)

theorem State.create_grew (n : Slot) (r : Record) : s.link.Grew (s.create n r).link := by
  unfold State.create
  exact (Link.Grew.of_eq (by simp)).trans (State.insert_grew _ n _)

theorem State.retireNoticed_grew (reason : Reason) (n : Slot) : s.link.Grew (s.retireNoticed reason n).link := by
  unfold State.retireNoticed; split
  · exact .refl _
  · exact (Link.Grew.of_eq (by simp)).trans (State.handNotice_grew _ _ _ _)

theorem State.retireIf_grew (reason : Reason) (p : Record → Bool) (n : Slot) : s.link.Grew (s.retireIf reason p n).link := by
  unfold State.retireIf; split
  · exact .refl _
  · split
    · exact s.retireNoticed_grew _ _
    · exact .refl _

theorem State.retireAll_grew (reason : Reason) (p : Record → Bool) : s.link.Grew (s.retireAll reason p).link := 
  .foldl _ (fun s n => s.retireIf_grew reason p n) _ s

theorem State.internalPost_grew (n : Slot) (k : Kind) (v : Option Nat) : s.link.Grew (s.internalPost n k v).link := by
  rcases s.internalPost_cases n k v with ⟨_, h⟩ | ⟨_, h⟩ <;> rw [h]
  · exact .refl _
  · exact s.create_grew _ _

theorem State.postSeal_grew : s.link.Grew s.postSeal.link := s.internalPost_grew _ _ _

theorem State.postPurge_grew : s.link.Grew s.postPurge.link := s.internalPost_grew _ _ _

theorem State.monitorPosts_grew : s.link.Grew s.monitorPosts.link := by
  unfold State.monitorPosts
  simp only
  (repeat' split)
  · exact s.postSeal_grew.trans (State.postPurge_grew _)
  · exact s.postSeal_grew
  · exact s.postPurge_grew
  · exact .refl _

theorem State.enterHoming_grew : s.link.Grew s.enterHoming.link := by
  unfold State.enterHoming
  exact (Link.Grew.of_eq (by simp)).trans (State.monitorPosts_grew _)

theorem State.enterRun_grew : s.link.Grew s.enterRun.link := by
  unfold State.enterRun
  exact (Link.Grew.of_eq (by simp)).trans (State.monitorPosts_grew _)

theorem State.enterParked_grew : s.link.Grew s.enterParked.link := by
  unfold State.enterParked
  simp only [State.handTargets_frame]
  exact (Link.Grew.of_eq (by simp)).trans (State.retireAll_grew _ _ _)

theorem State.homingCheck_grew : s.link.Grew s.homingCheck.link := by
  unfold State.homingCheck
  by_cases h : s.modes.mode = .homing ∧ s.allSettled = true
  · rw [if_pos h]
    by_cases k : s.modes.ignition = true
    · rw [if_pos k]; exact s.enterRun_grew
    · rw [if_neg k]; exact s.enterParked_grew
  · rw [if_neg h]; exact .refl _

theorem State.ignitionChange_grew (on : Bool) : s.link.Grew (s.ignitionChange on).link := by
  unfold State.ignitionChange
  split
  · exact s.enterParked_grew
  · exact s.enterParked_grew
  · by_cases h : s.homingFinished = true
    · rw [if_pos h]; exact s.enterRun_grew
    · rw [if_neg h]; exact s.enterHoming_grew
  all_goals exact .refl _

theorem State.debounceExpiry_grew : s.link.Grew s.debounceExpiry.link := by
  unfold State.debounceExpiry
  split
  · exact .refl _
  · split
    · exact .of_eq (by simp)
    · exact (Link.Grew.of_eq (by simp)).trans (State.ignitionChange_grew _ _)

theorem State.sealIntake_grew : s.link.Grew s.sealIntake.link := by
  unfold State.sealIntake
  split
  · exact (Link.Grew.of_eq (by simp)).trans (State.postSeal_grew _)
  · exact .refl _

theorem State.setContamination_grew (c : Contamination) : s.link.Grew (s.setContamination c).link := by
  unfold State.setContamination
  split
  · exact .refl _
  · simp only
    have h : s.link.Grew ((s.setAir { s.air with contamination := c }).airNotices c s.air.contamination).link :=
      (Link.Grew.of_eq (by simp)).trans (State.airNotices_grew _ _ _)
    split
    · exact h.trans (.of_eq (by simp))
    · exact h
    · exact h.trans (State.sealIntake_grew _)

theorem State.startEvaluation_grew : s.link.Grew s.startEvaluation.link := by
  unfold State.startEvaluation
  simp only
  (repeat' split) <;>
    first
    | exact .refl _
    | exact .of_eq (by simp)
    | exact (Link.Grew.of_eq (by simp)).trans (State.setContamination_grew _ _)

theorem State.judgeAir_grew : s.link.Grew s.judgeAir.link := by
  unfold State.judgeAir
  simp only
  (repeat' split) <;>
    first
    | exact .refl _
    | exact .of_eq (by simp)
    | exact (Link.Grew.of_eq (by simp)).trans (State.setContamination_grew _ _)

theorem State.afterReading_grew : s.link.Grew s.afterReading.link := by
  unfold State.afterReading
  (repeat' split)
  · exact s.judgeAir_grew
  · exact s.startEvaluation_grew
  · exact .refl _

theorem State.onIntakeCo_grew (a : Arrival) : s.link.Grew (s.onIntakeCo a).link := by
  unfold State.onIntakeCo
  split
  · exact .refl _
  · exact (Link.Grew.of_eq (by simp)).trans (State.afterReading_grew _)

theorem State.onIntakeParticulate_grew (a : Arrival) : s.link.Grew (s.onIntakeParticulate a).link := by
  unfold State.onIntakeParticulate
  split
  · exact .refl _
  · exact (Link.Grew.of_eq (by simp)).trans (State.afterReading_grew _)

theorem State.raiseCabHigh_grew : s.link.Grew s.raiseCabHigh.link := by
  unfold State.raiseCabHigh
  simp only
  split
  · exact (Link.Grew.of_eq (by simp)).trans (State.postPurge_grew _)
  · exact .of_eq (by simp)

theorem State.onCabCo_grew (a : Arrival) : s.link.Grew (s.onCabCo a).link := by
  unfold State.onCabCo
  simp only
  (repeat' split) <;>
    first
    | exact .refl _
    | exact .of_eq (by simp)
    | exact s.raiseCabHigh_grew

theorem State.dwellExpiry_grew : s.link.Grew s.dwellExpiry.link := by
  unfold State.dwellExpiry
  simp only
  (repeat' split) <;>
    first
    | exact .refl _
    | exact .of_eq (by simp)
    | exact (Link.Grew.of_eq (by simp)).trans (State.setContamination_grew _ _)

theorem State.clearHoldExpiry_grew : s.link.Grew s.clearHoldExpiry.link := by
  unfold State.clearHoldExpiry
  simp only
  (repeat' split) <;>
    first
    | exact .refl _
    | exact .of_eq (by simp)
    | exact (Link.Grew.of_eq (by simp)).trans (State.setContamination_grew _ _)

theorem State.deliver_grew (c : ChannelId) (a : Arrival) : s.link.Grew (s.deliver c a).link := by
  unfold State.deliver
  split
  · exact .of_eq (by simp)
  · exact .of_eq (by simp)
  · exact s.onIntakeCo_grew a
  · exact s.onIntakeParticulate_grew a
  · exact s.onCabCo_grew a
  · exact .of_eq (by simp)
  · exact .refl _

theorem State.convert_grew (c : ChannelId) (raw : BitVec 12) : s.link.Grew (s.convert c raw).link := by
  unfold State.convert
  exact (Link.Grew.of_eq (by simp)).trans (State.deliver_grew _ _ _)

theorem State.setRecState_grew (n : Slot) (st : RecState) : s.link.Grew (s.setRecState n st).link := by
  unfold State.setRecState
  (repeat' split)
  · exact .refl _
  · exact .refl _
  · exact (Link.Grew.of_eq (by simp)).trans (State.stateNotice_grew _ _)

theorem State.judgeIntake_grew (st : RecState) : s.link.Grew (s.judgeIntake st).link := by
  unfold State.judgeIntake
  split
  · exact .refl _
  · exact (s.setRecState_grew _ _).trans (.foldl _ (fun s m => s.setRecState_grew m _) _ _)

theorem State.computeIntake_grew : s.link.Grew s.computeIntake.link := by
  unfold State.computeIntake
  simp only [State.handFan_frame, State.handTarget_frame]
  exact s.judgeIntake_grew _

theorem State.putServed_grew (n : Slot) (old new : Record) : s.link.Grew (s.putServed n old new).link := by
  unfold State.putServed
  simp only
  (repeat' split)
  · exact .of_eq (by simp)
  · exact (Link.Grew.of_eq (by simp)).trans (State.limitNotice_grew _ _)
  · exact (Link.Grew.of_eq (by simp)).trans (State.stateNotice_grew _ _)
  · exact ((Link.Grew.of_eq (by simp)).trans (State.limitNotice_grew _ _)).trans (State.stateNotice_grew _ _)

theorem State.putBehind_grew (n : Slot) : s.link.Grew (s.putBehind n).link := by
  unfold State.putBehind
  split
  · exact .refl _
  · simp only
    split
    · exact .of_eq (by simp)
    · exact (Link.Grew.of_eq (by simp)).trans (State.stateNotice_grew _ _)

theorem State.serveZone_grew (z : Zone) (p : ZonePlan) (g : Nat) : s.link.Grew (s.serveZone z p g).link := by
  unfold State.serveZone
  simp only
  refine Link.Grew.trans ?_ (.foldl _ (fun s n => s.putBehind_grew n) _ _)
  split
  · exact (Link.Grew.of_eq (by simp)).trans (State.putServed_grew _ _ _ _)
  · exact .of_eq (by simp)

theorem State.allocate_grew : s.link.Grew s.allocate.link := by
  unfold State.allocate
  simp only [State.handTargets_frame]
  exact .foldl _ (fun s p => s.serveZone_grew _ _ _) _ _

theorem State.repostPurge_grew (e : Bool) : s.link.Grew (s.repostPurge e).link := by
  unfold State.repostPurge
  split
  · exact s.postPurge_grew
  · exact .refl _

theorem State.durationExpiry_grew : s.link.Grew s.durationExpiry.link := by
  unfold State.durationExpiry
  exact ((Link.Grew.of_eq (by simp)).trans (State.retireAll_grew _ _ _)).trans (State.repostPurge_grew _ _)

theorem State.lapse_grew (st : Station) : s.link.Grew (s.lapse st).link := by
  unfold State.lapse
  split
  · exact (s.retireAll_grew .lapsed (fun r => r.station == st)).trans (.of_eq (by simp))
  · exact .refl _
  · exact .refl _

theorem State.servePost_grew (f : RxFrame) : s.link.Grew (s.servePost f).1.link := by
  unfold State.servePost
  simp only
  (repeat' split) <;>
    first
    | exact .refl _
    | exact s.create_grew _ _

end Sys2Proof.Machine
end

