-- ==== Sys2Proof/Laws/Notices.lean ====
section
/-! SUPPORT. What notices each operation hands to the link, and in which order: after it the link and the notice-overrun
flags stand as the handing of a list of notices leaves them (`State.AfterNotices`). -/

namespace Sys2Proof.Machine

variable {s t u : State}

/-! ## What the handing of notices reads -/

/-- Two states in which every notice meets the same mask, the same room and the same flags. -/
structure State.SameNotices (t s : State) : Prop where
  link : t.link = s.link
  flags : ∀ st, (t.entry st).overrun = (s.entry st).overrun
  masks : ∀ st, (t.entry st).mask = (s.entry st).mask

theorem State.SameNotices.refl (s : State) : s.SameNotices s := ⟨rfl, fun _ => rfl, fun _ => rfl⟩

theorem State.SameNotices.trans (h : u.SameNotices t) (k : t.SameNotices s) : u.SameNotices s :=
  ⟨h.link.trans k.link, fun st => (h.flags st).trans (k.flags st), fun st => (h.masks st).trans (k.masks st)⟩

theorem State.SameNotices.symm (h : t.SameNotices s) : s.SameNotices t :=
  ⟨h.link.symm, fun st => (h.flags st).symm, fun st => (h.masks st).symm⟩

/-- A notice keeps every mask. -/
theorem State.handNotice_mask (s : State) (st u : Station) (c : Category) (d : Vector Byte 8) :
    ((s.handNotice st c d).entry u).mask = (s.entry u).mask := by
  rcases s.handNotice_entry st u c d with h | h <;> simp [h]

/-- Notices keep every mask. -/
theorem State.handNotices_mask (s : State) (ns : List Notice) (u : Station) :
    ((s.handNotices ns).entry u).mask = (s.entry u).mask := by
  induction ns generalizing s with
  | nil => rfl
  | cons n ns ih => exact (ih _).trans (s.handNotice_mask n.station u n.category n.data)

/-- A notice does the same in states that are the same to it. -/
theorem State.SameNotices.handNotice (h : t.SameNotices s) (st : Station) (c : Category) (d : Vector Byte 8) :
    (t.handNotice st c d).SameNotices (s.handNotice st c d) := by
  have hm := h.masks st
  have hr : t.noticeRoom = s.noticeRoom := by simp [State.noticeRoom, h.link]
  refine ⟨?_, fun x => ?_, fun x => ?_⟩
  · simp only [State.handNotice, hm, hr]
    split
    · exact h.link
    · split <;> simp [h.link]
  · simp only [State.handNotice, hm, hr]
    split
    · exact h.flags x
    · split
      · simpa using h.flags x
      · by_cases e : x = st
        · subst e; simp
        · simpa [State.entry_setEntry, e] using h.flags x
  · rw [State.handNotice_mask, State.handNotice_mask]; exact h.masks x

/-- Notices do the same in states that are the same to them. -/
theorem State.SameNotices.handNotices (h : t.SameNotices s) (ns : List Notice) :
    (t.handNotices ns).SameNotices (s.handNotices ns) := by
  induction ns generalizing s t with
  | nil => exact h
  | cons n ns ih => exact ih (h.handNotice n.station n.category n.data)

/-- The notices ns have been handed from s to t exactly when t is the same to every notice as s after them. -/
theorem State.afterNotices_iff (ns : List Notice) : t.AfterNotices s ns ↔ t.SameNotices (s.handNotices ns) :=
  ⟨fun h => ⟨h.link, h.flags, fun st => (h.masks st).trans (s.handNotices_mask ns st).symm⟩,
   fun h => ⟨h.link, h.flags, fun st => (h.masks st).trans (s.handNotices_mask ns st)⟩⟩

theorem State.handNotices_append (s : State) (ns ms : List Notice) :
    s.handNotices (ns ++ ms) = (s.handNotices ns).handNotices ms := by
  simp [State.handNotices, List.foldl_append]

theorem State.AfterNotices.refl (s : State) : s.AfterNotices s [] := ⟨rfl, fun _ => rfl, fun _ => rfl⟩

theorem State.AfterNotices.of_same (h : t.SameNotices s) : t.AfterNotices s [] := ⟨h.link, h.flags, h.masks⟩

/-- Notices handed in two parts. -/
theorem State.AfterNotices.trans {ns ms : List Notice} (h : u.AfterNotices t ms) (k : t.AfterNotices s ns) :
    u.AfterNotices s (ns ++ ms) := by
  rw [State.afterNotices_iff] at *
  rw [State.handNotices_append]
  exact h.trans (k.handNotices ms)

/-- What follows the notices and is the same to every notice leaves them as they are. -/
theorem State.AfterNotices.congr_left {ns : List Notice} (h : u.SameNotices t) (k : t.AfterNotices s ns) :
    u.AfterNotices s ns := by
  rw [State.afterNotices_iff] at *; exact h.trans k

/-- What precedes the notices and is the same to every notice leaves them as they are. -/
theorem State.AfterNotices.congr_right {ns : List Notice} (h : u.AfterNotices t ns) (k : t.SameNotices s) :
    u.AfterNotices s ns := by
  simpa using h.trans (State.AfterNotices.of_same k)

/-- One notice. -/
theorem State.handNotice_after (s : State) (st : Station) (c : Category) (d : Vector Byte 8) :
    (s.handNotice st c d).AfterNotices s [⟨st, c, d⟩] :=
  (State.afterNotices_iff _).2 (State.SameNotices.refl _)

/-! ## What leaves every notice as it is -/

theorem State.sameNotices_of (hl : t.link = s.link) (he : t.register = s.register) : t.SameNotices s := by
  refine ⟨hl, fun st => ?_, fun st => ?_⟩ <;> rw [State.entry_congr (congrArg StationRegister.entries he)]

theorem State.setSlot_same (s : State) (n : Slot) (r : Option Record) : (s.setSlot n r).SameNotices s :=
  State.sameNotices_of (by simp) (by simp)

theorem State.setList_same (s : State) (x : Target) (l : List Slot) : (s.setList x l).SameNotices s :=
  State.sameNotices_of (by simp) (by simp)

/-- A change of an entry that keeps its mask and its flag. -/
theorem State.setEntry_same (s : State) (st : Station) (e : StationEntry) (hf : e.overrun = (s.entry st).overrun)
    (hm : e.mask = (s.entry st).mask) : (s.setEntry st e).SameNotices s := by
  refine ⟨by simp, fun x => ?_, fun x => ?_⟩ <;> by_cases h : x = st
  · subst h; simp [hf]
  · simp [State.entry_setEntry, h]
  · subst h; simp [hm]
  · simp [State.entry_setEntry, h]

theorem State.retire_same (s : State) (n : Slot) : (s.retire n).SameNotices s := by
  unfold State.retire
  split
  · exact .refl s
  · exact (State.setEntry_same _ _ _ (by simp) (by simp)).trans
      ((State.setList_same _ _ _).trans (State.setSlot_same _ _ _))

/-! ## Changes of records -/

/-- A change of a record alone is read from that record before and after. -/
theorem State.changeNotice_congr {s s' t t' : State} {n : Slot} (hs : s.record n = s'.record n)
    (ht : t.record n = t'.record n) (c : Category) (p : Record → Record → Bool) :
    t.changeNotice s c p n = t'.changeNotice s' c p n := by simp only [State.changeNotice, hs, ht]

theorem State.stateChange_congr {s s' t t' : State} {n : Slot} (hs : s.record n = s'.record n)
    (ht : t.record n = t'.record n) : t.stateChange s n = t'.stateChange s' n := State.changeNotice_congr hs ht _ _

theorem State.limitChange_congr {s s' t t' : State} {n : Slot} (hs : s.record n = s'.record n)
    (ht : t.record n = t'.record n) : t.limitChange s n = t'.limitChange s' n := State.changeNotice_congr hs ht _ _

/-- An operation that rewrites the record in slot n alone and hands notices: every other record and every list stay, and of
an entry only its flag may change. -/
structure State.Rewrites (t s : State) (touched : Slot → Prop) : Prop where
  records : ∀ m, ¬ touched m → t.record m = s.record m
  lists : t.table.lists = s.table.lists
  counter : t.table.postSeq = s.table.postSeq
  timer : t.table.durationTimer = s.table.durationTimer
  entries : ∀ st, t.entry st = { s.entry st with overrun := (t.entry st).overrun }
  locks : t.register.locks = s.register.locks
  supply : t.register.supply = s.register.supply

theorem State.Rewrites.refl (s : State) (p : Slot → Prop) : s.Rewrites s p :=
  ⟨fun _ _ => rfl, rfl, rfl, rfl, fun _ => rfl, rfl, rfl⟩

theorem State.Rewrites.trans {p q : Slot → Prop} (h : u.Rewrites t q) (k : t.Rewrites s p) :
    u.Rewrites s (fun m => p m ∨ q m) where
  records m hm := (h.records m (fun e => hm (.inr e))).trans (k.records m (fun e => hm (.inl e)))
  lists := h.lists.trans k.lists
  counter := h.counter.trans k.counter
  timer := h.timer.trans k.timer
  entries st := by rw [h.entries st, k.entries st]
  locks := h.locks.trans k.locks
  supply := h.supply.trans k.supply

theorem State.Rewrites.mono {p q : Slot → Prop} (h : t.Rewrites s p) (k : ∀ m, p m → q m) : t.Rewrites s q :=
  { h with records := fun m hm => h.records m (fun e => hm (k m e)) }

theorem State.handNotice_rewrites (s : State) (st : Station) (c : Category) (d : Vector Byte 8) (p : Slot → Prop) :
    (s.handNotice st c d).Rewrites s p := by
  rcases s.handNotice_cases st c d with ⟨_, h⟩ | ⟨_, _, _, h⟩ | ⟨_, _, _, h⟩ <;> rw [h]
  · exact .refl s p
  · exact ⟨fun m _ => by simp, by simp, by simp, by simp, fun x => by simp, by simp, by simp⟩
  · refine ⟨fun m _ => by simp, by simp, by simp, by simp, fun x => ?_, by simp [State.setEntry],
      by simp [State.setEntry]⟩
    by_cases e : x = st
    · subst e; simp
    · simp [State.entry_setEntry, e]

theorem State.stateNotice_rewrites (s : State) (n : Slot) (p : Slot → Prop) : (s.stateNotice n).Rewrites s p := by
  unfold State.stateNotice; split
  · exact .refl s p
  · exact s.handNotice_rewrites _ _ _ p

theorem State.limitNotice_rewrites (s : State) (n : Slot) (p : Slot → Prop) : (s.limitNotice n).Rewrites s p := by
  unfold State.limitNotice; split
  · exact .refl s p
  · exact s.handNotice_rewrites _ _ _ p

theorem State.setSlot_rewrites (s : State) (n : Slot) (r : Option Record) : (s.setSlot n r).Rewrites s (· = n) :=
  ⟨fun m hm => by simp [State.record_setSlot, hm], by simp, by simp [State.setSlot], by simp [State.setSlot],
   fun st => by simp, by simp, by simp⟩

@[simp] theorem State.record_stateNotice (s : State) (n m : Slot) : (s.stateNotice n).record m = s.record m :=
  (s.stateNotice_rewrites n (fun _ => False)).records m id

@[simp] theorem State.record_limitNotice (s : State) (n m : Slot) : (s.limitNotice n).record m = s.record m :=
  (s.limitNotice_rewrites n (fun _ => False)).records m id

/-- The STATE notice of a record that has just been written. -/
theorem State.stateNotice_after (h : s.record n = some r) :
    (s.stateNotice n).AfterNotices s [⟨r.station, .state, r.notice .state 0 n⟩] := by
  simpa [State.stateNotice, h] using s.handNotice_after r.station .state (r.notice .state 0 n)

/-- The LIMIT notice of a record that has just been written. -/
theorem State.limitNotice_after (h : s.record n = some r) :
    (s.limitNotice n).AfterNotices s [⟨r.station, .limit, r.notice .limit 0 n⟩] := by
  simpa [State.limitNotice, h] using s.handNotice_after r.station .limit (r.notice .limit 0 n)

/-- A state set in a record (R33, R34): that record alone changes, with the STATE notice of the change. -/
theorem State.setRecState_after (s : State) (n : Slot) (st : RecState) :
    (s.setRecState n st).Rewrites s (· = n) ∧
    (s.setRecState n st).record n = (s.record n).map (fun r => { r with state := st }) ∧
    (s.setRecState n st).AfterNotices s ((s.setRecState n st).stateChange s n) := by
  unfold State.setRecState
  cases h : s.record n with
  | none => exact ⟨.refl s _, by simp [h], by simpa [State.stateChange, State.changeNotice, h] using .refl s⟩
  | some r =>
    by_cases e : r.state = st
    · subst e
      exact ⟨by simpa using .refl s _, by simp [h], by simpa [State.stateChange, State.changeNotice, h] using .refl s⟩
    · refine ⟨by simpa [e] using
          ((State.stateNotice_rewrites _ n (· = n)).trans (s.setSlot_rewrites n _)).mono (by simp), by simp [e], ?_⟩
      have k := (State.stateNotice_after (n := n) (by simp : (s.setSlot n (some { r with state := st })).record n =
        some { r with state := st })).congr_right (s.setSlot_same n _)
      simpa [e, State.stateChange, State.changeNotice, h] using k

/-- Fold of an operation that rewrites one slot at a time over slots that are named once: each record stands as its own turn
leaves it, and the notices follow in the order of the slots. -/
theorem State.foldl_after (f : State → Slot → State) (note : State → State → Slot → List Notice)
    (hcongr : ∀ {s s' t t' : State} {n : Slot}, s.record n = s'.record n → t.record n = t'.record n →
      note t s n = note t' s' n)
    (val : Slot → Option Record → Option Record)
    (hf : ∀ s n, (f s n).Rewrites s (· = n) ∧ (f s n).record n = val n (s.record n) ∧
      (f s n).AfterNotices s (note (f s n) s n))
    (l : List Slot) (hl : l.Nodup) (s : State) :
    (l.foldl f s).Rewrites s (· ∈ l) ∧ (∀ n ∈ l, (l.foldl f s).record n = val n (s.record n)) ∧
    (l.foldl f s).AfterNotices s (l.flatMap (note (l.foldl f s) s)) := by
  induction l generalizing s with
  | nil => exact ⟨.refl s _, by simp, by simpa using .refl s⟩
  | cons a l ih =>
    obtain ⟨ha, hl⟩ := List.nodup_cons.1 hl
    obtain ⟨h1, h2, h3⟩ := hf s a
    obtain ⟨k1, k2, k3⟩ := ih hl (f s a)
    refine ⟨(k1.trans h1).mono (by simp), ?_, ?_⟩
    · intro n hn
      rcases List.mem_cons.1 hn with rfl | hn
      · rw [List.foldl_cons, k1.records _ ha, h2]
      · rw [List.foldl_cons, k2 n hn, h1.records n (fun e => ha (e ▸ hn))]
    · have k := k3.trans h3
      rw [List.foldl_cons, List.flatMap_cons]
      have e1 : note (l.foldl f (f s a)) s a = note (f s a) s a := hcongr rfl (k1.records a ha)
      have e2 : l.flatMap (note (l.foldl f (f s a)) s) = l.flatMap (note (l.foldl f (f s a)) (f s a)) := by
        apply List.flatMap_congr
        intro n hn
        exact hcongr (h1.records n (fun e => ha (e ▸ hn))).symm rfl
      rw [e1, e2]; exact k

/-- The intake list judged (R33, R34, R130): the first record takes the state, those behind it are QUEUED, with the STATE
notice of each change in list order. -/
theorem State.judgeIntake_after (s : State) (st : RecState) (hl : (s.list intakeTarget).Nodup) :
    (s.judgeIntake st).Rewrites s (· ∈ s.list intakeTarget) ∧
    (∀ n rest, s.list intakeTarget = n :: rest →
      (s.judgeIntake st).record n = (s.record n).map (fun r => { r with state := st }) ∧
      ∀ m ∈ rest, (s.judgeIntake st).record m = (s.record m).map (fun r => { r with state := .queued })) ∧
    (s.judgeIntake st).AfterNotices s ((s.list intakeTarget).flatMap ((s.judgeIntake st).stateChange s)) := by
  unfold State.judgeIntake
  cases e : s.list intakeTarget with
  | nil => exact ⟨.refl s _, by simp, by simpa using .refl s⟩
  | cons a l =>
    rw [e] at hl
    have k := State.foldl_after (fun s m => s.setRecState m (if m = a then st else .queued))
      (fun t s n => t.stateChange s n) (fun h1 h2 => State.stateChange_congr h1 h2)
      (fun n o => o.map (fun r => { r with state := if n = a then st else .queued }))
      (fun s n => s.setRecState_after n _) (a :: l) hl s
    have ha := (List.nodup_cons.1 hl).1
    have ef : ∀ s : State, l.foldl (fun s m => s.setRecState m (if m = a then st else .queued)) s =
        l.foldl (fun s m => s.setRecState m .queued) s := by
      intro s
      apply List.foldl_ext
      intro s m hm
      have : m ≠ a := fun e => ha (e ▸ hm)
      simp [this]
    simp only [List.foldl_cons, if_true, ef] at k
    obtain ⟨k1, k2, k3⟩ := k
    refine ⟨k1, ?_, k3⟩
    intro n rest hn
    obtain ⟨rfl, rfl⟩ := List.cons.inj hn
    refine ⟨by simpa using k2 a (by simp), fun m hm => ?_⟩
    have : m ≠ a := fun e => ha (e ▸ hm)
    simpa [this] using k2 m (by simp [hm])

/-! ## Retirements -/

/-- One step of the retirement of a set: its RETIRE notice. -/
theorem State.retireIf_after (s : State) (reason : Reason) (p : Record → Bool) (n : Slot) :
    (s.retireIf reason p n).AfterNotices s (((s.record n).filter p).toList.map
      (fun r => ⟨r.station, .retire, r.notice .retire reason.code n⟩)) := by
  unfold State.retireIf
  cases h : s.record n with
  | none => simpa [Option.filter] using .refl s
  | some r =>
    cases hp : p r with
    | false => simpa [Option.filter, hp] using .refl s
    | true =>
      simpa [Option.filter, hp, State.retireNoticed, h] using
        ((s.retire n).handNotice_after r.station .retire (r.notice .retire reason.code n)).congr_right (s.retire_same n)

/-- The RETIRE notices of a set (R21, R22): one for each record that goes, in ascending slot order. -/
theorem State.retireAll_after (s : State) (reason : Reason) (p : Record → Bool) :
    (s.retireAll reason p).AfterNotices s (s.retireNotices reason.code (fun r => if p r then some r else none)) := by
  let note : State → Slot → Option Notice := fun s n => (s.record n).bind (fun r =>
    (if p r then some r else none).map (fun q => ⟨q.station, .retire, q.notice .retire reason.code n⟩))
  have key : ∀ (l : List Slot), l.Nodup → ∀ s : State,
      (l.foldl (fun s n => s.retireIf reason p n) s).AfterNotices s (l.filterMap (note s)) := by
    intro l hl
    induction l with
    | nil => intro s; simpa using .refl s
    | cons a l ih =>
      intro s
      obtain ⟨ha, hl⟩ := List.nodup_cons.1 hl
      have k := (ih hl (s.retireIf reason p a)).trans (s.retireIf_after reason p a)
      have e : l.filterMap (note s) = l.filterMap (note (s.retireIf reason p a)) := by
        apply List.filterMap_congr
        intro n hn
        have hna : n ≠ a := fun e => ha (e ▸ hn)
        simp only [note, State.record_retireIf, if_neg hna]
      rw [List.foldl_cons]
      convert k using 1
      rw [← e, List.filterMap_cons]
      cases h : s.record a with
      | none => simp [note, Option.filter, h]
      | some r => cases hp : p r <;> simp [note, Option.filter, hp, h]
  exact key _ (List.nodup_finRange 40) s

/-- The lists after one step of the retirement of a set. -/
theorem State.list_retireIf (s : State) (reason : Reason) (p : Record → Bool) (n : Slot) (x : Target) :
    (s.retireIf reason p n).list x = (s.list x).filter (fun m =>
      !(decide (m = n) && (s.record n).any (fun r => r.target == x && p r))) := by
  unfold State.retireIf
  cases h : s.record n with
  | none => simp
  | some r =>
    cases hp : p r with
    | false => simp [hp]
    | true =>
      simp only [hp, if_true, State.retireNoticed, h]
      rw [State.list_congr (t := s.retire n) (by simp), State.list_retire s n r h]
      by_cases e : x = r.target
      · subst e
        simp only [if_true]
        apply List.filter_congr
        intro m _
        by_cases hm : m = n <;> simp [hm, hp]
      · have e' : (r.target == x) = false := by simpa using fun h => e h.symm
        simp [e, e']

/-- The lists after the retirement of a set (R27): the slots of its records leave them, and the rest keep their order. -/
theorem State.list_retireAll (s : State) (reason : Reason) (p : Record → Bool) (x : Target) :
    (s.retireAll reason p).list x = (s.list x).filter (fun n =>
      !(s.record n).any (fun r => r.target == x && p r)) := by
  have key : ∀ (l : List Slot), l.Nodup → ∀ s : State, (l.foldl (fun s n => s.retireIf reason p n) s).list x =
      (s.list x).filter (fun n => !(decide (n ∈ l) && (s.record n).any (fun r => r.target == x && p r))) := by
    intro l hl
    induction l with
    | nil => intro s; simp
    | cons a l ih =>
      intro s
      obtain ⟨ha, hl⟩ := List.nodup_cons.1 hl
      rw [List.foldl_cons, ih hl, State.list_retireIf, List.filter_filter]
      apply List.filter_congr
      intro m _
      rw [State.record_retireIf]
      by_cases e : m = a
      · subst e; simp [ha]
      · simp [e]
  simpa [State.retireAll] using key _ (List.nodup_finRange 40) s

/-! ## Displacement and creation -/

/-- The record of a slot displaced (R31, R34): QUEUED where it was judged first, with its STATE notice. -/
theorem State.displace_after (s : State) (n : Slot) :
    (s.displace n).Rewrites s (· = n) ∧
    (s.displace n).record n = (s.record n).map (fun r => if r.state.judgedFirst then { r with state := .queued } else r) ∧
    (s.displace n).AfterNotices s ((s.displace n).stateChange s n) := by
  unfold State.displace
  cases h : s.record n with
  | none => exact ⟨.refl s _, by simp [h], by simpa [State.stateChange, State.changeNotice, h] using .refl s⟩
  | some r =>
    by_cases e : r.state.judgedFirst = true
    · have hne : r.state ≠ .queued := fun q => by rw [q] at e; exact absurd e (by decide)
      refine ⟨by simpa [e] using
          ((State.stateNotice_rewrites _ n (· = n)).trans (s.setSlot_rewrites n _)).mono (by simp), by simp [e], ?_⟩
      have k := (State.stateNotice_after (n := n) (by simp : (s.setSlot n (some { r with state := .queued })).record n =
        some { r with state := .queued })).congr_right (s.setSlot_same n _)
      simpa [e, State.stateChange, State.changeNotice, h, hne] using k
    · simp only [e]
      exact ⟨.refl s _, by simp [h, e], by simpa [State.stateChange, State.changeNotice, h] using .refl s⟩

/-- A PENDING record put into a free slot (R26, R31, R34): it stands in its place in its list, the judged first record that it
goes ahead of is QUEUED with its STATE notice, and nothing else changes. -/
theorem State.insert_after (s : State) (n : Slot) (r : Record) (hn : s.record n = none) (hr : r.state = .pending) :
    (s.insert n r).record n = some r ∧
    (∀ m, m ≠ n → (s.insert n r).record m = (s.record m).map (fun q =>
      if (s.list r.target).head? = some m ∧ (s.list r.target).any (s.classAtMost r.kind.cls) = false ∧
        q.state.judgedFirst = true then { q with state := .queued } else q)) ∧
    (∀ u, (s.insert n r).list u =
      if u = r.target then insertAfterLast (s.classAtMost r.kind.cls) n (s.list r.target) else s.list u) ∧
    (s.insert n r).table.postSeq = s.table.postSeq ∧ (s.insert n r).table.durationTimer = s.table.durationTimer ∧
    (∀ st, (s.insert n r).entry st = { s.entry st with overrun := ((s.insert n r).entry st).overrun }) ∧
    (s.insert n r).register.locks = s.register.locks ∧ (s.insert n r).register.supply = s.register.supply ∧
    (s.insert n r).AfterNotices s (s.displacements r.target r.kind.cls) := by
  set p := insertAfterLast (s.classAtMost r.kind.cls) n (s.list r.target) with hp
  set w := (s.setSlot n (some r)).setList r.target p with hw
  have hws : w.SameNotices s := (State.setList_same _ _ _).trans (s.setSlot_same _ _)
  have hwn : w.record n = some r := by simp [hw]
  have hwm : ∀ m, m ≠ n → w.record m = s.record m := fun m hm => by simp [hw, State.record_setSlot, hm]
  have hwl : ∀ u, w.list u = if u = r.target then p else s.list u := fun u => by simp [hw, State.list_setList]
  have hwe : ∀ st, w.entry st = s.entry st := fun st => by simp [hw]
  by_cases hd : s.insert n r = w ∧ ((s.list r.target).any (s.classAtMost r.kind.cls) = true ∨ s.list r.target = [])
  · obtain ⟨hi, hd⟩ := hd
    rw [hi]
    refine ⟨hwn, fun m hm => ?_, hwl, by simp [hw, State.setSlot, State.setList],
      by simp [hw, State.setSlot, State.setList], fun st => by rw [hwe], by simp [hw], by simp [hw], ?_⟩
    · rw [hwm m hm]
      have : (fun q : Record => if (s.list r.target).head? = some m ∧
          (s.list r.target).any (s.classAtMost r.kind.cls) = false ∧ q.state.judgedFirst = true then { q with state := .queued } else q) = id := by
        funext q; rw [if_neg]; rfl
        rintro ⟨h1, h2, _⟩
        rcases hd with hd | hd
        · rw [hd] at h2; exact absurd h2 (by simp)
        · rw [hd] at h1; simp at h1
      rw [this]; simp
    · have : s.displacements r.target r.kind.cls = [] := by
        unfold State.displacements State.governing State.first
        rcases hd with hd | hd
        · simp [hd]; split <;> rfl
        · simp [hd]
      rw [this]; exact State.AfterNotices.of_same hws
  · have hcase : ∃ m l, s.list r.target = m :: l ∧ (s.list r.target).any (s.classAtMost r.kind.cls) = false ∧
        s.insert n r = w.displace m := by
      unfold State.insert at hd ⊢
      cases e : s.list r.target with
      | nil => simp [e, hw, hp] at hd
      | cons m l =>
        simp only [e] at hd
        by_cases ha : (m :: l).any (s.classAtMost r.kind.cls) = true
        · exact absurd ⟨by rw [if_pos ha, hw, hp, e], .inl ha⟩ hd
        · refine ⟨m, l, rfl, by simpa using ha, ?_⟩
          simp only [hw, hp, e]; rw [if_neg ha]
    obtain ⟨m0, l, e, ha, hi⟩ := hcase
    obtain ⟨d1, d2, d3⟩ := w.displace_after m0
    rw [hi]
    have hmn : m0 = n → w.displace m0 = w := by
      intro h; unfold State.displace; rw [h, hwn]; simp [hr, RecState.judgedFirst]
    refine ⟨?_, fun m hm => ?_, fun u => ?_, ?_, ?_, fun st => ?_, ?_, ?_, ?_⟩
    · by_cases h : n = m0
      · rw [hmn h.symm]; exact hwn
      · rw [d1.records n h, hwn]
    · by_cases h : m = m0
      · subst h; rw [d2, hwm m hm]
        rw [e] at ha
        simp only [ha, e, List.head?_cons, true_and]
      · rw [d1.records m h, hwm m hm]
        have : ¬ (s.list r.target).head? = some m := by rw [e]; simpa using fun q => h q.symm
        simp [this]
    · rw [State.list_congr d1.lists, hwl]
    · rw [d1.counter]; simp [hw, State.setSlot, State.setList]
    · rw [d1.timer]; simp [hw, State.setSlot, State.setList]
    · rw [d1.entries st, hwe]
    · rw [d1.locks]; simp [hw]
    · rw [d1.supply]; simp [hw]
    · have : s.displacements r.target r.kind.cls = (w.displace m0).stateChange w m0 := by
        unfold State.displacements State.governing State.first State.stateChange State.changeNotice
        rw [d2]
        by_cases h : m0 = n
        · subst h; rw [hwn]; simp [e, hn, hr, RecState.judgedFirst]
        · rw [hwm m0 h]
          simp only [e, List.head?_cons]
          rw [e] at ha
          cases hq : s.record m0 with
          | none => rfl
          | some q =>
            simp only [ha, Option.map_some]
            by_cases hj : q.state.judgedFirst = true
            · have : q.state ≠ .queued := fun z => by rw [z] at hj; exact absurd hj (by decide)
              simp [hj, this]
            · simp [hj]
      rw [this]; exact d3.congr_right hws

/-! ## An allocation -/

/-- A governing record written (R82): that record alone changes, with LIMIT and then STATE. -/
theorem State.putServed_after (s : State) (n : Slot) (old new : Record) (h : s.record n = some old) :
    (s.putServed n old new).Rewrites s (· = n) ∧ (s.putServed n old new).record n = some new ∧
    (s.putServed n old new).AfterNotices s
      ((s.putServed n old new).limitChange s n ++ (s.putServed n old new).stateChange s n) := by
  have hr : (s.putServed n old new).record n = some new := by
    unfold State.putServed; (repeat' split) <;> simp
  have hw : (s.putServed n old new).Rewrites s (· = n) := by
    have h0 := s.setSlot_rewrites n (some new)
    have h1 : ∀ u : State, u.Rewrites s (· = n) → (u.limitNotice n).Rewrites s (· = n) := fun u hu =>
      ((u.limitNotice_rewrites n (· = n)).trans hu).mono (by simp)
    have h2 : ∀ u : State, u.Rewrites s (· = n) → (u.stateNotice n).Rewrites s (· = n) := fun u hu =>
      ((u.stateNotice_rewrites n (· = n)).trans hu).mono (by simp)
    unfold State.putServed
    (repeat' split) <;> simp_all
  refine ⟨hw, hr, ?_⟩
  simp only [State.limitChange, State.stateChange, State.changeNotice, h, hr]
  have h0 := State.AfterNotices.of_same (s.setSlot_same n (some new))
  have hl := State.limitNotice_after (n := n) (by simp : (s.setSlot n (some new)).record n = some new)
  have hls := State.stateNotice_after (n := n)
    (by simp : ((s.setSlot n (some new)).limitNotice n).record n = some new)
  have hs := State.stateNotice_after (n := n) (by simp : (s.setSlot n (some new)).record n = some new)
  unfold State.putServed
  by_cases a : new.grantedLevel = old.grantedLevel <;> by_cases b : new.state = old.state
  · simpa [a, b] using h0
  · simpa [a, b, Ne.symm b] using hs.trans h0
  · simpa [a, b, Ne.symm a] using hl.trans h0
  · simpa [a, b, Ne.symm a, Ne.symm b] using hls.trans (hl.trans h0)

/-- A record behind the first written (R32, R34). -/
theorem State.putBehind_after (s : State) (n : Slot) :
    (s.putBehind n).Rewrites s (· = n) ∧
    (s.putBehind n).record n = (s.record n).map (fun r => { r with
      state := .queued, grantedFlow := some 0, grantedLevel := some 0, flags := r.flags.cleared }) ∧
    (s.putBehind n).AfterNotices s ((s.putBehind n).stateChange s n) := by
  unfold State.putBehind
  cases h : s.record n with
  | none => exact ⟨.refl s _, by simp [h], by simpa [State.stateChange, State.changeNotice, h] using .refl s⟩
  | some r =>
    by_cases e : r.state = .queued
    · refine ⟨by simpa [e] using s.setSlot_rewrites n _, by simp [e], ?_⟩
      simpa [e, State.stateChange, State.changeNotice, h] using State.AfterNotices.of_same (s.setSlot_same n _)
    · refine ⟨by simpa [e] using
          ((State.stateNotice_rewrites _ n (· = n)).trans (s.setSlot_rewrites n _)).mono (by simp), by simp [e], ?_⟩
      have k := (State.stateNotice_after (n := n) (s.record_setSlot_same n (some { r with
        state := .queued, grantedFlow := some 0, grantedLevel := some 0, flags := r.flags.cleared }))).congr_right
        (s.setSlot_same n _)
      simpa [e, State.stateChange, State.changeNotice, h] using k

theorem State.setZone_rewrites (s : State) (z : Zone) (zs : ZoneState) (p : Slot → Prop) : (s.setZone z zs).Rewrites s p :=
  ⟨fun _ _ => rfl, rfl, rfl, rfl, fun _ => rfl, rfl, rfl⟩

/-- What stage 4 writes into a governing record is read from the actuators, the scanner, the layout and the clutch. -/
theorem State.writeServed_congr (hd : t.drive = s.drive) (hs : t.scanner = s.scanner) (hl : t.store = s.store)
    (hc : t.coolant = s.coolant) (z : Zone) (p : ZonePlan) (g : Nat) : t.writeServed z p g = s.writeServed z p g := by
  have e : t.decks = s.decks := by unfold State.decks State.tCold State.tHot State.healthy State.channel; rw [hs]
  have f : t.actFaulted = s.actFaulted := by funext a; unfold State.actFaulted; rw [hd]
  funext r
  unfold State.writeServed State.outletFaulted
  rw [e, f, hl, hc]

/-- Stage 4 for one zone (R32, R34, R81, R82), where the plan's demand is the zone's governing record: that record as stage 4
writes it, those behind it QUEUED, and the notices of the zone in order. -/
theorem State.serveZone_after (s : State) (z : Zone) (p : ZonePlan) (g : Nat) (hl : (s.list (zoneTarget z)).Nodup)
    (live : ∀ n ∈ s.list (zoneTarget z), (s.record n).isSome = true)
    (hd : ∀ n r, p.demand = .record n r ↔ (s.list (zoneTarget z)).head? = some n ∧ s.record n = some r) :
    (s.serveZone z p g).Rewrites s (· ∈ s.list (zoneTarget z)) ∧
    (∀ n rest, s.list (zoneTarget z) = n :: rest →
      (s.serveZone z p g).record n = (s.record n).map (s.writeServed z p g) ∧
      ∀ m ∈ rest, (s.serveZone z p g).record m = (s.record m).map (fun r => { r with
        state := .queued, grantedFlow := some 0, grantedLevel := some 0, flags := r.flags.cleared })) ∧
    (s.serveZone z p g).AfterNotices s ((s.serveZone z p g).zoneChanges s (s.list (zoneTarget z))) := by
  cases e : s.list (zoneTarget z) with
  | nil =>
    have hp : ∀ n r, p.demand ≠ .record n r := fun n r h => by simpa [e] using ((hd n r).1 h).1
    have hu : s.serveZone z p g = s.setZone z (s.climate.zones[z.val].after p g (s.store.live.flowPerLevel z)) := by
      simp only [State.serveZone, e]
      cases h : p.demand with
      | none => rfl
      | synthetic => rfl
      | record n r => exact absurd h (hp n r)
    rw [hu]
    exact ⟨s.setZone_rewrites z _ _, by simp, State.AfterNotices.of_same (State.sameNotices_of rfl rfl)⟩
  | cons n rest =>
    rw [e] at hl
    obtain ⟨hn, hrest⟩ := List.nodup_cons.1 hl
    obtain ⟨r, hr⟩ := Option.isSome_iff_exists.1 (live n (by simp [e]))
    have hp : p.demand = .record n r := (hd n r).2 ⟨by simp [e], hr⟩
    have h0 := s.setZone_rewrites z (s.climate.zones[z.val].after p g (s.store.live.flowPerLevel z)) (· = n)
    have h0n : (s.setZone z (s.climate.zones[z.val].after p g (s.store.live.flowPerLevel z))).SameNotices s :=
      State.sameNotices_of rfl rfl
    obtain ⟨a1, a2, a3⟩ := State.putServed_after
      (s.setZone z (s.climate.zones[z.val].after p g (s.store.live.flowPerLevel z))) n r (s.writeServed z p g r) hr
    set w := (s.setZone z (s.climate.zones[z.val].after p g (s.store.live.flowPerLevel z))).putServed n r
      (s.writeServed z p g r) with hw
    obtain ⟨b1, b2, b3⟩ := State.foldl_after State.putBehind (fun t s n => t.stateChange s n)
      (fun h1 h2 => State.stateChange_congr h1 h2) (fun _ o => o.map (fun r => { r with
        state := .queued, grantedFlow := some 0, grantedLevel := some 0, flags := r.flags.cleared }))
      State.putBehind_after rest hrest w
    have hu : s.serveZone z p g = rest.foldl State.putBehind w := by
      simp only [State.serveZone, e, hp, List.tail_cons]; rfl
    have hw' : w.Rewrites s (· = n) := (a1.trans h0).mono (by simp)
    rw [hu]
    have hne : ∀ m ∈ rest, m ≠ n := fun m hm e => hn (e ▸ hm)
    refine ⟨(b1.trans hw').mono (by simp), ?_, ?_⟩
    · intro m l hml
      obtain ⟨rfl, rfl⟩ := List.cons.inj hml
      refine ⟨by rw [b1.records _ hn, a2, hr]; rfl, fun m hm => ?_⟩
      rw [b2 m hm, hw'.records m (hne m hm)]
    · have k := b3.trans (a3.congr_right h0n)
      convert k using 1
      simp only [State.zoneChanges]
      have e0 : (rest.foldl State.putBehind w).record n = w.record n := b1.records n hn
      congr 1
      · congr 1
        · exact State.limitChange_congr rfl e0
        · exact State.stateChange_congr rfl e0
      · apply List.flatMap_congr
        intro m hm
        exact State.stateChange_congr (hw'.records m (hne m hm)).symm rfl

/-- Stage 4 for the zones one after another, where their lists share no slot: each zone's records as its own turn writes them,
and the notices zone by zone (R82). -/
theorem State.serveZones_after (plan : Zone → ZonePlan) (g : Zone → Nat) (zs : List Zone) (s : State)
    (apart : zs.Pairwise (fun z y => ∀ n ∈ s.list (zoneTarget z), n ∉ s.list (zoneTarget y)))
    (once : ∀ z ∈ zs, (s.list (zoneTarget z)).Nodup)
    (live : ∀ z ∈ zs, ∀ n ∈ s.list (zoneTarget z), (s.record n).isSome = true)
    (hd : ∀ z ∈ zs, ∀ n r, (plan z).demand = .record n r ↔
      (s.list (zoneTarget z)).head? = some n ∧ s.record n = some r) :
    let t := zs.foldl (fun s z => s.serveZone z (plan z) (g z)) s
    t.Rewrites s (fun n => ∃ z ∈ zs, n ∈ s.list (zoneTarget z)) ∧
    (∀ z ∈ zs, ∀ n rest, s.list (zoneTarget z) = n :: rest →
      t.record n = (s.record n).map (s.writeServed z (plan z) (g z)) ∧
      ∀ m ∈ rest, t.record m = (s.record m).map (fun r => { r with
        state := .queued, grantedFlow := some 0, grantedLevel := some 0, flags := r.flags.cleared })) ∧
    t.AfterNotices s (zs.flatMap (fun z => t.zoneChanges s (s.list (zoneTarget z)))) := by
  induction zs generalizing s with
  | nil => exact ⟨.refl s _, by simp, .refl s⟩
  | cons a zs ih =>
    obtain ⟨ha, hz⟩ := List.pairwise_cons.1 apart
    obtain ⟨a1, a2, a3⟩ := s.serveZone_after a (plan a) (g a) (once a (by simp)) (live a (by simp)) (hd a (by simp))
    set w := s.serveZone a (plan a) (g a) with hw
    have hlist : ∀ x, w.list x = s.list x := State.list_congr a1.lists
    have hrec : ∀ z ∈ zs, ∀ n ∈ s.list (zoneTarget z), w.record n = s.record n := fun z hz n hn =>
      a1.records n (fun hna => ha z hz n hna hn)
    have hwr : ∀ z p g, w.writeServed z p g = s.writeServed z p g := fun z p g =>
      State.writeServed_congr (by simp [hw]) (by simp [hw]) (by simp [hw]) (by simp [hw]) z p g
    have k := ih w (by simpa [hlist] using hz) (fun z hz => by simpa [hlist] using once z (by simp [hz]))
      (fun z hz n hn => by
        rw [hlist] at hn; rw [hrec z hz n hn]; exact live z (by simp [hz]) n hn)
      (fun z hz n r => by
        rw [hd z (by simp [hz]) n r, hlist]
        refine and_congr_right (fun hn => ?_)
        rw [hrec z hz n (List.mem_of_mem_head? hn)])
    simp only [List.foldl_cons, List.flatMap_cons]
    rw [← hw]
    obtain ⟨k1, k2, k3⟩ := k
    simp only [hlist] at k1 k2 k3
    set t := zs.foldl (fun s z => s.serveZone z (plan z) (g z)) w
    have keep : ∀ n ∈ s.list (zoneTarget a), t.record n = w.record n := fun n hn =>
      k1.records n (by rintro ⟨z, hz, hnz⟩; exact ha z hz n hn hnz)
    refine ⟨(k1.trans a1).mono (by rintro m (h | ⟨z, hz, h⟩); exact ⟨a, by simp, h⟩; exact ⟨z, by simp [hz], h⟩), ?_, ?_⟩
    · intro z hz n rest hl
      rcases List.mem_cons.1 hz with rfl | hz
      · obtain ⟨b1, b2⟩ := a2 n rest hl
        refine ⟨by rw [keep n (by simp [hl]), b1], fun m hm => ?_⟩
        rw [keep m (by simp [hl, hm]), b2 m hm]
      · obtain ⟨b1, b2⟩ := k2 z hz n rest hl
        refine ⟨by rw [b1, hwr, hrec z hz n (by simp [hl])], fun m hm => ?_⟩
        rw [b2 m hm, hrec z hz m (by simp [hl, hm])]
    · have zc : ∀ (l : List Slot) (x x' y y' : State), (∀ n ∈ l, x.record n = x'.record n ∧ y.record n = y'.record n) →
          x.zoneChanges y l = x'.zoneChanges y' l := by
        intro l x x' y y' h
        cases l with
        | nil => rfl
        | cons n l =>
          have hn := h n (by simp)
          simp only [State.zoneChanges]
          rw [State.limitChange_congr hn.2 hn.1, State.stateChange_congr hn.2 hn.1, List.flatMap_congr (fun m hm =>
            State.stateChange_congr (h m (by simp [hm])).2 (h m (by simp [hm])).1)]
      convert k3.trans a3 using 1
      congr 1
      · exact zc _ _ _ _ _ (fun n hn => ⟨keep n hn, rfl⟩)
      · apply List.flatMap_congr
        intro z hz
        exact zc _ _ _ _ _ (fun n hn => ⟨rfl, (hrec z hz n hn).symm⟩)

/-! ## Zone temperatures -/

/-- The cab's readings are those of the healthy channels that the present zones 1 to 7 name, each once, in whatever order they
are listed (R87). -/
theorem State.cabReadings_perm (s : State) (chans : List ChannelId) (once : chans.Nodup)
    (named : ∀ c, c ∈ chans ↔ ∃ y : Zone, y ≠ 0 ∧ s.store.live.zonePresent y = true ∧ zoneChannel s.store.live y = c) :
    s.cabReadings.Perm (chans.filterMap s.healthy) := by
  refine List.Perm.filterMap _ ((List.perm_ext_iff_of_nodup (List.nodup_dedup _) once).2 (fun c => ?_))
  simp [named, Layout.cabZones, and_assoc]

/-- The mean of the cab, however its channels are listed (R87). -/
theorem State.cabMean_of_perm (s : State) (vs : List Int) (h : s.cabReadings.Perm vs) :
    s.cabMean = if vs = [] then none else some (vs.sum.tdiv (vs.length : Int)) := by
  unfold State.cabMean
  cases e : s.cabReadings with
  | nil => rw [e] at h; simp [h.nil_eq.symm]
  | cons v l =>
    rw [e] at h
    have hne : vs ≠ [] := fun q => by simp [q] at h
    simp only [hne, if_false, h.sum_eq, h.length_eq]

end Sys2Proof.Machine
end

