-- ==== Sys2Proof/Laws/Monitor.lean ====
section
/-! SUPPORT. The monitor's laws: its posts, the AIR notices, and what a change of the contamination state and an arrival of
a gas channel do (R119 to R127). -/

namespace Sys2Proof.Machine

/-- A post of the monitor is what the statements call it (R15). -/
theorem State.internalPost_eq (s : State) (n : Slot) (k : Kind) (v : Option Nat) :
    s.internalPost n k v = s.monitorPost n k v := by
  unfold State.internalPost State.monitorPost
  cases h : s.record n <;> simp [internalRecord] <;> rfl

/-- The posts of an entry into HOMING or RUN, SEAL before PURGE (R125, R127). -/
theorem State.monitorPosts_eq (s : State) : s.monitorPosts = s.withInternalPosts := by
  have h : ∀ u : State, u.postSeal = u.monitorPost 38 .seal none := fun u => u.internalPost_eq 38 .seal none
  have h' : ∀ u : State, u.postPurge = u.monitorPost 39 .purge (some (60 * u.store.live.purgeMinutes)) :=
    fun u => u.internalPost_eq 39 .purge _
  have ha : s.postSeal.air = s.air := by simp
  have hs : s.postSeal.store = s.store := by simp
  unfold State.monitorPosts State.withInternalPosts
  by_cases hc : s.air.contamination = .contaminated <;> by_cases hb : s.air.cabHigh = true <;> simp [hc, hb, ha, hs, h', ← h]

/-- The AIR notices by their bytes (R174). -/
theorem State.airChanges_eq (s : State) (new old : Contamination) :
    s.airChanges new old = ((List.finRange 16).filter (fun st => decide (st ≠ 0 ∧ (s.entry st).presence ≠ .unseen))).map
      (fun st => { station := st, category := .air, data := airNotice new old }) := by
  cases new <;> cases old <;> rfl

/-- A notice keeps every presence (R58). -/
theorem State.handNotice_presence (u : State) (st x : Station) (c : Category) (d : Vector Byte 8) :
    ((u.handNotice st c d).entry x).presence = (u.entry x).presence := by
  rcases u.handNotice_entry st x c d with h | h <;> rw [h]

/-- Handing the AIR notices is handing that list of notices (R56). -/
theorem State.airNotices_eq (s : State) (new old : Contamination) :
    s.airNotices new old = s.handNotices (s.airChanges new old) := by
  rw [s.airChanges_eq]
  unfold State.airNotices State.handNotices
  suffices ∀ (l : List Station) (u : State), (∀ st, (u.entry st).presence = (s.entry st).presence) →
      l.foldl (fun s st => if (s.entry st).presence = .unseen then s else s.handNotice st .air (airNotice new old)) u =
      (List.map (fun st => ({ station := st, category := .air, data := airNotice new old } : Notice))
        (l.filter (fun st => decide (st ≠ 0 ∧ (s.entry st).presence ≠ .unseen)))).foldl
        (fun s n => s.handNotice n.station n.category n.data) u from this _ s (fun _ => rfl)
  intro l
  induction l with
  | nil => intro u _; rfl
  | cons st l ih =>
    intro u hu
    rw [List.foldl_cons, hu st]
    by_cases h : (s.entry st).presence = .unseen
    · rw [if_pos h, List.filter_cons_of_neg (by simp [h])]; exact ih u hu
    · rw [if_neg h]
      by_cases h0 : st = 0
      · rw [List.filter_cons_of_neg (by simp [h0])]
        have : u.handNotice st .air (airNotice new old) = u := by simp [State.handNotice, h0]
        rw [this]; exact ih u hu
      · rw [List.filter_cons_of_pos (by simp [h0, h]), List.map_cons, List.foldl_cons]
        exact ih _ (fun x => by rw [State.handNotice_presence, hu])

/-- Notices change no item of an entry but its notice-overrun flag (R58). -/
theorem State.handNotices_entry (s : State) (ns : List Notice) (x : Station) :
   (s.handNotices ns).entry x = { s.entry x with overrun := ((s.handNotices ns).entry x).overrun } := by
  induction ns generalizing s with
  | nil => rfl
  | cons n ns ih =>
    have := ih (s.handNotice n.station n.category n.data)
    show ((s.handNotice n.station n.category n.data).handNotices ns).entry x =
      { s.entry x with overrun := (((s.handNotice n.station n.category n.data).handNotices ns).entry x).overrun }
    rw [this]
    rcases s.handNotice_entry n.station x n.category n.data with h | h <;> rw [h]

/-- AIR notices leave the locks and the supply level. -/
@[simp] theorem State.airNotices_register (s : State) (new old : Contamination) :
    (s.airNotices new old).register.locks = s.register.locks ∧ (s.airNotices new old).register.supply = s.register.supply := by
  unfold State.airNotices
  constructor
  · apply foldl_keeps (fun s : State => s.register.locks); intro u st; split
    · rfl
    · rcases u.handNotice_cases st .air (airNotice new old) with ⟨_, h⟩ | ⟨_, _, _, h⟩ | ⟨_, _, _, h⟩ <;>
        simp [h, State.enqueue, State.setEntry]
  · apply foldl_keeps (fun s : State => s.register.supply); intro u st; split
    · rfl
    · rcases u.handNotice_cases st .air (airNotice new old) with ⟨_, h⟩ | ⟨_, _, _, h⟩ | ⟨_, _, _, h⟩ <;>
        simp [h, State.enqueue, State.setEntry]

/-- The entry into CONTAMINATED, after its notices (R125). -/
theorem State.sealIntake_eq (w : State) : w.sealIntake = w.contaminationEntry .contaminated := by
  unfold State.sealIntake State.contaminationEntry State.serving
  have hp : ∀ u : State, u.postSeal = u.monitorPost 38 .seal none := fun u => u.internalPost_eq 38 .seal none
  simp only [hp, Bool.or_eq_true, beq_iff_eq]
  rfl

/-- A new contamination state with its AIR notices (R56, R124). -/
theorem State.airReported (s : State) (new : Contamination) :
    ((s.setAir { s.air with contamination := new }).airNotices new s.air.contamination).AirReported s new := by
  have e := State.airNotices_eq (s.setAir { s.air with contamination := new }) new s.air.contamination
  have same : (s.setAir { s.air with contamination := new }).SameNotices s := State.sameNotices_of rfl rfl
  have ent : ∀ st, (s.setAir { s.air with contamination := new }).entry st = s.entry st := fun _ => rfl
  have hn : (s.setAir { s.air with contamination := new }).airChanges new s.air.contamination =
      s.airChanges new s.air.contamination := by
    simp only [State.airChanges_eq, ent]
  refine ⟨?_, ?_, ?_⟩
  · have h1 := State.airNotices_frame (s := s.setAir { s.air with contamination := new }) new s.air.contamination
    have h2 := State.airNotices_register (s.setAir { s.air with contamination := new }) new s.air.contamination
    generalize (s.setAir { s.air with contamination := new }).airNotices new s.air.contamination = w at h1 h2
    rcases w with ⟨_, ⟨_, _, _⟩, _, _, _, _, _, _, _, _, _, _, _, _⟩
    simp only [State.setAir] at h1 h2
    obtain ⟨rfl, rfl, rfl, rfl, rfl, rfl, rfl, rfl, rfl, rfl, rfl, rfl⟩ := h1
    obtain ⟨rfl, rfl⟩ := h2
    rfl
  · intro st; rw [e, State.handNotices_entry]; rfl
  · rw [e, hn]
    exact (State.afterNotices_iff _).2 (same.handNotices _)

/-- All that a change of the contamination state does (R124, R125). -/
theorem State.setContamination_moves (s : State) (new : Contamination) (h : s.air.contamination ≠ new) :
    (s.setContamination new).ContaminationMoves s new := by
  refine ⟨_, s.airReported new, ?_⟩
  unfold State.setContamination
  rw [if_neg h]
  cases new with
  | clear => rfl
  | suspect => rfl
  | contaminated => exact State.sealIntake_eq _

/-- A change of the contamination state writes that item of the monitor alone. -/
theorem State.setContamination_air (s : State) (n : Contamination) :
    (s.setContamination n).air = { s.air with contamination := n } := by
  by_cases h : s.air.contamination = n
  · unfold State.setContamination; rw [if_pos h, ← h]
  · obtain ⟨w, hw, e⟩ := s.setContamination_moves n h
    rw [e]
    have hwa : w.air = { s.air with contamination := n } := by rw [hw.frame]
    unfold State.contaminationEntry
    split
    · simp [hwa]
    · exact hwa
    · split
      · rw [← State.internalPost_eq]; simp [hwa]
      · exact hwa

/-- A judgement of the monitor, from s to u: it writes the monitor alone, or the contamination state moves (R121, R124). -/
structure State.Judged (u s : State) : Prop where
  same : u.air.contamination = s.air.contamination → u = { s with air := u.air }
  moves : u.air.contamination ≠ s.air.contamination →
    u.ContaminationMoves { s with air := { u.air with contamination := s.air.contamination } } u.air.contamination

/-- A change of state after the monitor has been written is a judgement. -/
theorem State.Judged.setContamination (s : State) (m : AirMonitor) (n) (hm : m.contamination = s.air.contamination) :
    State.Judged ((s.setAir m).setContamination n) s := by
  have ha : ((s.setAir m).setContamination n).air = { m with contamination := n } := State.setContamination_air _ n
  constructor
  · intro h
    rw [ha] at h; simp at h
    unfold State.setContamination
    rw [if_pos (by rw [h]; exact hm)]; rfl
  · intro h
    rw [ha] at h ⊢; simp at h
    have := State.setContamination_moves (s.setAir m) n (by simp [State.setAir, hm]; exact fun e => h e.symm)
    convert this using 1
    simp [State.setAir, ← hm]

/-- Writing the monitor without a change of state is a judgement. -/
theorem State.Judged.setAir (s : State) (m : AirMonitor) (hm : m.contamination = s.air.contamination) :
    State.Judged (s.setAir m) s :=
  ⟨fun _ => rfl, fun h => absurd hm h⟩

/-- Doing nothing is a judgement. -/
theorem State.Judged.refl (s : State) : State.Judged s s := ⟨fun _ => rfl, fun h => absurd rfl h⟩

/-- Writing the monitor ahead of a judgement makes a judgement. -/
theorem State.Judged.of_setAir (u s : State) (m : AirMonitor) (hm : m.contamination = s.air.contamination)
    (h : State.Judged u (s.setAir m)) : State.Judged u s :=
  ⟨fun e => h.1 (by rw [e, ← hm]; rfl), fun e => by
    have := h.2 (by simpa [State.setAir, hm] using e)
    convert this using 1
    simp [State.setAir, hm]⟩

/-- What follows an updated reading is a judgement (R120, R121). -/
theorem State.afterReading_judged (s : State) : State.Judged s.afterReading s := by
  unfold State.afterReading
  split
  · unfold State.judgeAir
    simp only []
    split
    · split
      · exact State.Judged.setContamination s s.air _ rfl
      · exact State.Judged.setContamination s _ _ (by rfl)
      · exact State.Judged.setAir s _ (by rfl)
    · split
      · split
        · exact State.Judged.setContamination s _ _ (by rfl)
        · exact State.Judged.refl s
        · exact State.Judged.setAir s _ (by rfl)
      · split
        · exact State.Judged.refl s
        · exact State.Judged.setContamination s _ _ (by rfl)
        · split
          · exact State.Judged.refl s
          · exact State.Judged.setAir s _ (by rfl)
  · split
    · unfold State.startEvaluation
      simp only []
      split
      · exact State.Judged.setContamination s _ _ (by rfl)
      · split
        · exact State.Judged.setAir s _ (by rfl)
        · exact State.Judged.setContamination s _ _ (by rfl)
    · exact State.Judged.refl s

/-- A channel 11 arrival is a judgement (R119). -/
theorem State.onIntakeCo_judged (s : State) (a) : State.Judged (s.onIntakeCo a) s := by
  unfold State.onIntakeCo; split
  · exact State.Judged.refl s
  · exact State.Judged.of_setAir _ s _ (by rfl) (State.afterReading_judged _)

/-- A channel 12 arrival is a judgement (R119). -/
theorem State.onIntakeParticulate_judged (s : State) (a) : State.Judged (s.onIntakeParticulate a) s := by
  unfold State.onIntakeParticulate; split
  · exact State.Judged.refl s
  · exact State.Judged.of_setAir _ s _ (by rfl) (State.afterReading_judged _)

/-- CAB_HIGH rises, with PURGE posted in HOMING and RUN (R126, R127). -/
theorem State.raiseCabHigh_eq (v : State) : v.raiseCabHigh.air = { v.air with cabHigh := true } ∧ v.raiseCabHigh =
    if v.modes.mode = .homing ∨ v.modes.mode = .run then
      ({ v with air := { v.air with cabHigh := true } }).monitorPost 39 .purge (some (60 * v.store.live.purgeMinutes))
    else { v with air := { v.air with cabHigh := true } } := by
  have hp : ∀ v : State, v.postPurge = v.monitorPost 39 .purge (some (60 * v.store.live.purgeMinutes)) :=
      fun v => v.internalPost_eq 39 .purge _
  constructor
  · unfold State.raiseCabHigh; simp only []; split <;> simp [State.setAir]
  · unfold State.raiseCabHigh State.serving
    simp only [hp, Bool.or_eq_true, beq_iff_eq]; rfl

/-- All that a channel 13 arrival does (R126, R127): it writes the monitor, and posts PURGE where CAB_HIGH rises. -/
theorem State.onCabCo_eq (v : State) (a : Arrival) :
    (v.onCabCo a).air.contamination = v.air.contamination ∧
    v.onCabCo a = if v.air.cabHigh = false ∧ (v.onCabCo a).air.cabHigh = true ∧
        (v.modes.mode = .homing ∨ v.modes.mode = .run)
      then ({ v with air := (v.onCabCo a).air }).monitorPost 39 .purge (some (60 * v.store.live.purgeMinutes))
      else { v with air := (v.onCabCo a).air } := by
  obtain ⟨ra, re⟩ := State.raiseCabHigh_eq v
  have hno : ∀ m : AirMonitor, m.cabHigh = false ∨ v.air.cabHigh = true → m.contamination = v.air.contamination →
    (v.setAir m).air.contamination = v.air.contamination ∧
    v.setAir m = if v.air.cabHigh = false ∧ (v.setAir m).air.cabHigh = true ∧
        (v.modes.mode = .homing ∨ v.modes.mode = .run)
      then ({ v with air := (v.setAir m).air }).monitorPost 39 .purge (some (60 * v.store.live.purgeMinutes))
      else { v with air := (v.setAir m).air } := by
    intro m hm hc
    refine ⟨hc, ?_⟩
    rw [if_neg]; rfl
    rintro ⟨h1, h2, _⟩
    rcases hm with hm | hm
    · rw [State.setAir] at h2; simp [hm] at h2
    · simp [hm] at h1
  have hself : v = v.setAir v.air := rfl
  unfold State.onCabCo
  simp only []
  split
  · exact hno _ (.inl rfl) rfl
  · split
    · exact hno v.air (by cases v.air.cabHigh <;> simp) rfl
    · split
      · rename_i hcab
        split
        · rw [ra]
          refine ⟨rfl, ?_⟩
          rw [re]; simp [hcab]
        · exact hno v.air (.inl hcab) rfl
      · rename_i hcab
        have hc : v.air.cabHigh = true := by simpa using hcab
        split
        · split
          · exact hno v.air (.inr hc) rfl
          · exact hno _ (.inr hc) rfl
        · exact hno _ (.inr hc) rfl

end Sys2Proof.Machine
end

