-- ==== Sys2Proof/Laws/Modes.lean ====
section
/-! SUPPORT. The laws of the mode controller: the entries into HOMING, RUN and PARKED, and the end of homing (R154, R158,
R183, R184, R185). -/

namespace Sys2Proof.Machine

/-- One actuator at the entry into HOMING, on the drive: it needs motion if it is present, UNHOMED and not waiting (R154). -/
def ActuatorDrive.homeOne (present : ActuatorId → Bool) (d : ActuatorDrive) (a : ActuatorId) : ActuatorDrive :=
  if present a = true ∧ (d.act a).state = .unhomed ∧ d.waiting a = false then d.needMotion a else d

/-- The entry of UNHOMED actuators into HOMING, one by one (R153, R154): the free channels are taken in order, the rest wait. -/
theorem ActuatorDrive.needMotion_fold (present : ActuatorId → Bool) (l : List ActuatorId) (hl : l.Nodup)
    (d : ActuatorDrive) :
    let needs := fun a => decide (present a = true ∧ (d.act a).state = .unhomed ∧ a ∉ d.queue)
    let e := l.foldl (ActuatorDrive.homeOne present) d
    e.queue = d.queue ++ (l.filter needs).drop (6 - d.busy) ∧
    (∀ a ∈ (l.filter needs).take (6 - d.busy),
      e.act a = { d.act a with state := .homing, phase := .closing, step := none, count := 0 }) ∧
    (∀ a, a ∉ (l.filter needs).take (6 - d.busy) → e.act a = d.act a) := by
  induction l generalizing d with
  | nil => simp
  | cons a l ih =>
    obtain ⟨ha, hl⟩ := List.nodup_cons.1 hl
    intro needs e
    by_cases h : present a = true ∧ (d.act a).state = .unhomed ∧ a ∉ d.queue
    · have hw : d.waiting a = false := by simpa [ActuatorDrive.waiting] using h.2.2
      have hf : (a :: l).filter needs = a :: l.filter needs := List.filter_cons_of_pos (by simpa [needs] using h)
      have he : e = l.foldl (ActuatorDrive.homeOne present) (d.needMotion a) := by
        simp only [e, List.foldl_cons, show ActuatorDrive.homeOne present d a = d.needMotion a from if_pos ⟨h.1, h.2.1, hw⟩]
      rw [hf]
      have := ih hl (d.needMotion a)
      rw [he]
      rcases d.needMotion_cases a with ⟨hb, hn⟩ | ⟨hb, hq, hn⟩ | ⟨hb, hq, hn⟩
      · rcases d.takeChannel_cases a with ⟨_, ht⟩ | ⟨h', _⟩ | ⟨h', _⟩
        · rw [hn, ht] at this ⊢
          have hbusy : (d.setAct a ((d.act a).beginHoming .homing)).busy = d.busy + 1 := by
            have h1 := d.busy_setAct a ((d.act a).beginHoming .homing)
            have h2 : (d.act a).inMotion = false := by simp [Actuator.inMotion, h.2.1]
            have h3 : ((d.act a).beginHoming .homing).inMotion = true := rfl
            rw [h2, h3] at h1; simpa using h1
          have hb' : 6 - d.busy = (6 - (d.setAct a ((d.act a).beginHoming .homing)).busy) + 1 := by
            rw [hbusy]; omega
          have hneeds : l.filter (fun b => decide (present b = true ∧
              ((d.setAct a ((d.act a).beginHoming .homing)).act b).state = .unhomed ∧
              b ∉ (d.setAct a ((d.act a).beginHoming .homing)).queue)) = l.filter needs := by
            apply List.filter_congr
            intro b hbl
            have : b ≠ a := fun e => ha (e ▸ hbl)
            simp [needs, ActuatorDrive.act_setAct, this]
          obtain ⟨q, tk, kp⟩ := this
          rw [hneeds] at q tk kp
          rw [hb', List.drop_succ_cons, List.take_succ_cons]
          refine ⟨by simpa using q, ?_, ?_⟩
          · intro b hbm
            rcases List.mem_cons.1 hbm with rfl | hbm
            · rw [kp]
              · simp [Actuator.beginHoming]
              · intro hx; exact ha (List.mem_of_mem_filter (List.mem_of_mem_take hx))
            · rw [tk b hbm]
              have : b ≠ a := fun e => ha (e ▸ List.mem_of_mem_filter (List.mem_of_mem_take hbm))
              simp [ActuatorDrive.act_setAct, this]
          · intro b hbm
            have h2 := List.not_mem_of_not_mem_cons hbm
            have h3 : b ≠ a := fun e => hbm (by simp [e])
            rw [kp b h2]; simp [ActuatorDrive.act_setAct, h3]
        · simp [h.2.1] at h'
        · simp [h.2.1] at h'
      · exact absurd hq h.2.2
      · have h0 : 6 - d.busy = 0 := by omega
        rw [hn] at this ⊢
        obtain ⟨q, tk, kp⟩ := this
        simp only [ActuatorDrive.busy_withQueue, h0, List.drop_zero, List.take_zero, ActuatorDrive.act_withQueue] at q tk kp ⊢
        have hneeds : l.filter (fun b => decide (present b = true ∧ (d.act b).state = .unhomed ∧
            b ∉ d.queue ++ [a])) = l.filter needs := by
            apply List.filter_congr
            intro b hbl
            have : b ≠ a := fun e => ha (e ▸ hbl)
            simp [needs, this]
        rw [← hneeds]
        refine ⟨by refine q.trans ?_; simp only [List.append_assoc, List.singleton_append]; rfl, by simp, fun b _ => kp b (by simp)⟩
    · have hf : (a :: l).filter needs = l.filter needs := List.filter_cons_of_neg (by simpa [needs] using h)
      have he : e = l.foldl (ActuatorDrive.homeOne present) d := by
        have : ActuatorDrive.homeOne present d a = d := if_neg (by simpa [ActuatorDrive.waiting] using h)
        simp only [e, List.foldl_cons, this]
      rw [hf, he]; exact ih hl d

/-- The entry into HOMING changes the drive alone, as the statements say (R154). -/
theorem State.startHoming_eq (s : State) :
    s.startHoming = { s with drive := s.startHoming.drive } ∧ s.DriveHomes s.startHoming.drive := by
  have key : ∀ (l : List ActuatorId) (d : ActuatorDrive),
      l.foldl State.homeOne { s with drive := d } = { s with drive := l.foldl (ActuatorDrive.homeOne s.actPresent) d } := by
    intro l
    induction l with
    | nil => intro d; rfl
    | cons a l ih =>
      intro d; rw [List.foldl_cons, List.foldl_cons, ← ih]; congr 1
      simp only [State.homeOne, ActuatorDrive.homeOne]
      have : ({ s with drive := d } : State).actPresent a = s.actPresent a := rfl
      rw [this]; split <;> rfl
  have := key (List.finRange 17) s.drive
  have e : s.startHoming = { s with drive := (List.finRange 17).foldl (ActuatorDrive.homeOne s.actPresent) s.drive } := this
  rw [e]
  refine ⟨rfl, ?_⟩
  obtain ⟨a, b, c⟩ := ActuatorDrive.needMotion_fold s.actPresent (List.finRange 17) (List.nodup_finRange 17) s.drive
  exact ⟨a, b, c⟩

/-- All that the check for the end of homing can do (R184). -/
theorem State.homingCheck_eq (s : State) :
    let settled := ∀ a, s.actPresent a = true → (s.drive.act a).state = .ready ∨ (s.drive.act a).state = .faulted
    (s.modes.mode ≠ .homing ∨ ¬ settled → s.homingCheck = s) ∧
    (s.modes.mode = .homing → settled → s.modes.ignition = true →
      s.homingCheck = ({ s with modes := { s.modes with mode := .run } }).withInternalPosts) ∧
    (s.modes.mode = .homing → settled → s.modes.ignition = false → s.homingCheck = s.enterParked) := by
  intro settled
  have hs : s.allSettled = true ↔ settled := by
    simp only [State.allSettled, State.everyActuator, List.all_eq_true, List.mem_finRange, true_implies, settled]
    apply forall_congr'; intro a
    cases h : s.actPresent a <;> simp
  refine ⟨?_, ?_, ?_⟩
  · intro h; unfold State.homingCheck; rw [if_neg]; rw [hs]; tauto
  · intro h1 h2 h3
    unfold State.homingCheck; rw [if_pos ⟨h1, hs.2 h2⟩, if_pos h3, State.enterRun, State.monitorPosts_eq]; rfl
  · intro h1 h2 h3
    unfold State.homingCheck; rw [if_pos ⟨h1, hs.2 h2⟩, h3]; rfl

/-- The retirement of every record gives each station its quota back and keeps the rest of its entry (R22, R45). -/
theorem State.retireAll_entries (s : State) (reason : Reason) (st : Station) :
    ((s.retireAll reason (fun _ => true)).entry st).presence = (s.entry st).presence ∧
    ((s.retireAll reason (fun _ => true)).entry st).lapse = (s.entry st).lapse ∧
    ((s.retireAll reason (fun _ => true)).entry st).mask = (s.entry st).mask ∧
    ((s.retireAll reason (fun _ => true)).entry st).quota = (s.entry st).quota + s.liveCount st := by
  have key : ∀ (l : List Slot), l.Nodup → ∀ s : State,
      let t := l.foldl (fun s n => s.retireIf reason (fun _ => true) n) s
      (t.entry st).presence = (s.entry st).presence ∧ (t.entry st).lapse = (s.entry st).lapse ∧
      (t.entry st).mask = (s.entry st).mask ∧
      (t.entry st).quota = (s.entry st).quota + l.countP (fun n => (s.record n).any (fun r => r.station == st)) := by
    intro l
    induction l with
    | nil => intro _ s; simp
    | cons a l ih =>
      intro hl s
      obtain ⟨ha, hl⟩ := List.nodup_cons.1 hl
      have := ih hl (s.retireIf reason (fun _ => true) a)
      simp only [List.foldl_cons]
      have hc : l.countP (fun n => ((s.retireIf reason (fun _ => true) a).record n).any (fun r => r.station == st)) =
          l.countP (fun n => (s.record n).any (fun r => r.station == st)) := by
        apply List.countP_congr; intro n hn
        have : n ≠ a := fun e => ha (e ▸ hn)
        rw [State.record_retireIf, if_neg this]
      rw [hc] at this
      rw [List.countP_cons]
      obtain ⟨h1, h2, h3, h4⟩ := this
      rw [h1, h2, h3, h4]
      unfold State.retireIf
      cases h : s.record a with
      | none => simp
      | some r =>
        simp only [if_true, State.retireNoticed, h]
        have e := s.entry_retire a r h st
        rcases (s.retire a).handNotice_entry r.station st .retire (r.notice .retire reason.code a) with k | k <;>
          rw [k, e] <;> clear k e <;>
          (by_cases hr : st = r.station
           · subst hr; simp; omega
           · have hr' : ¬ r.station = st := fun h => hr h.symm
             simp [hr, hr'])
  exact key (List.finRange 40) (List.nodup_finRange 40) s

/-- Targets handed to the present actuators among a list, in its order (R149, R155). -/
theorem State.handTargets_present (s : State) (p : ActuatorId → Nat) (l : List ActuatorId) :
    s.handTargets (l.map (fun a => (a, p a))) = ({ s with drive := ((
    l.filter (fun a => s.actPresent a)).foldl
    (fun (d : ActuatorDrive) a => d.handTarget a (p a)) s.drive) } : State) := by
  have key : ∀ (l : List ActuatorId) (d : ActuatorDrive),
    State.handTargets { s with drive := d } (l.map (fun a => (a, p a))) = ({ s with drive := ((
    l.filter (fun a => s.actPresent a)).foldl
    (fun (d : ActuatorDrive) a => d.handTarget a (p a)) d) } : State) := by
    intro l
    induction l with
    | nil => intro d; rfl
    | cons a l ih =>
      intro d
      rw [List.map_cons]
      show State.handTargets (State.handTarget { s with drive := d } a (p a)) (l.map _) = _
      unfold State.handTarget
      have : ({ s with drive := d } : State).actPresent a = s.actPresent a := rfl
      rw [this]
      cases h : s.actPresent a
      · simp only [List.filter_cons_of_neg (p := fun a => s.actPresent a) (by simp [h] : ¬ (s.actPresent a = true))]
        exact ih d
      · simp only [List.filter_cons_of_pos (p := fun a => s.actPresent a) h]
        exact ih _
  exact key l s.drive

/-- The parts of the table and the register that a notice and a retirement leave alone. -/
structure State.SameRest (t s : State) : Prop where
  postSeq : t.table.postSeq = s.table.postSeq
  duration : t.table.durationTimer = s.table.durationTimer
  locks : t.register.locks = s.register.locks
  supply : t.register.supply = s.register.supply

/-- A notice leaves them alone. -/
theorem State.handNotice_rest (s : State) (st : Station) (c : Category) (d : Vector Byte 8) :
    (s.handNotice st c d).SameRest s := by
  rcases s.handNotice_cases st c d with ⟨_, h⟩ | ⟨_, _, _, h⟩ | ⟨_, _, _, h⟩ <;> rw [h] <;> exact ⟨rfl, rfl, rfl, rfl⟩

/-- A retirement leaves them alone. -/
theorem State.retire_rest (s : State) (n : Slot) : (s.retire n).SameRest s := by
  unfold State.retire
  cases s.record n <;> exact ⟨rfl, rfl, rfl, rfl⟩

/-- So does a retirement with its notice. -/
theorem State.retireIf_rest (s : State) (reason : Reason) (p : Record → Bool) (n : Slot) :
    (s.retireIf reason p n).SameRest s := by
  have same : s.SameRest s := ⟨rfl, rfl, rfl, rfl⟩
  cases h : s.record n with
  | none => rw [show s.retireIf reason p n = s by simp [State.retireIf, h]]; exact same
  | some r =>
    cases hp : p r
    · rw [show s.retireIf reason p n = s by simp [State.retireIf, h, hp]]; exact same
    · rw [show s.retireIf reason p n = (s.retire n).handNotice r.station .retire (r.notice .retire reason.code n) by
        simp [State.retireIf, State.retireNoticed, h, hp]]
      have h1 := s.retire_rest n
      have h2 := (s.retire n).handNotice_rest r.station .retire (r.notice .retire reason.code n)
      exact ⟨h2.1.trans h1.1, h2.2.trans h1.2, h2.3.trans h1.3, h2.4.trans h1.4⟩

/-- So does the retirement of a set. -/
theorem State.retireAll_rest (s : State) (reason : Reason) (p : Record → Bool) :
    (s.retireAll reason p).SameRest s := by
  unfold State.retireAll
  generalize List.finRange 40 = l
  induction l generalizing s with
  | nil => exact ⟨rfl, rfl, rfl, rfl⟩
  | cons n l ih =>
    have h1 := s.retireIf_rest reason p n
    have h2 := ih (s.retireIf reason p n)
    exact ⟨h2.1.trans h1.1, h2.2.trans h1.2, h2.3.trans h1.3, h2.4.trans h1.4⟩

/-- The entry into PARKED by its blocks (R185). -/
theorem State.enterParked_eq (s : State) : ∃ w : State, w = (s.setMode .parked).retireAll .parked (fun _ => true) ∧
  s.enterParked = { w with
    register := { w.register with locks := Vector.replicate 9 none }
    climate := s.climate.rest
    coolant := s.coolant.park
    intake := s.intake.park
    fans := { s.fans with blowerDuty := 0, fanDuty := 0 }
    drive := ((List.finRange 17).filter (fun a => s.actPresent a)).foldl
      (fun d a => d.handTarget a (if a.val ≤ 8 then 0 else 500)) s.drive } := by
  refine ⟨_, rfl, ?_⟩
  have hframe := State.retireAll_frame (s := s.setMode .parked) .parked (fun _ => true)
  unfold State.enterParked
  simp only []
  generalize (s.setMode .parked).retireAll .parked (fun _ => true) = w at *
  rw [State.handTargets_present _ parkPosition]
  have hp : parkPosition = (fun a => if a.val ≤ 8 then 0 else 500) := by
    funext a; simp [parkPosition]
  rw [hp]
  obtain ⟨h1, h2, h3, h4, h5, h6, h7, h8, h9, h10, h11⟩ := hframe
  have : ∀ a, ({ w with
    register := { w.register with locks := Vector.replicate 9 none }
    climate := w.climate.rest
    coolant := w.coolant.park
    intake := w.intake.park
    fans := { w.fans with blowerDuty := 0, fanDuty := 0 } } : State).actPresent a = s.actPresent a := by
    intro a; exact State.actPresent_congr a h8
  simp only [this]
  rw [h1, h2, h4, h6, h7]; rfl

/-- The entry into PARKED is what the statements say (R185). -/
theorem State.enterParked_enters (s : State) : s.enterParked.EntersParked s := by
  obtain ⟨w, hw, he⟩ := s.enterParked_eq
  have f1 := State.retireAll_frame (s := s.setMode .parked) .parked (fun _ => true)
  have f2 := State.retireAll_rest (s.setMode .parked) .parked (fun _ => true)
  have f3 := State.record_retireAll (s := s.setMode .parked) .parked (fun _ => true)
  have f4 := State.list_retireAll (s.setMode .parked) .parked (fun _ => true)
  have f5 : ((s.setMode .parked).retireAll .parked (fun _ => true)).AfterNotices (s.setMode .parked)
      (s.retireNotices 4 some) := by
    exact (s.setMode .parked).retireAll_after .parked (fun _ => true)
  have f6 := State.retireAll_entries (s.setMode .parked) .parked
  rw [← hw] at f1 f2 f3 f4 f5 f6
  clear hw
  obtain ⟨h1, h2, h3, h4, h5, h6, h7, h8, h9, h10, h11⟩ := f1
  obtain ⟨g1, g2, g3, g4⟩ := f2
  rw [he]
  refine ⟨?_, ?_, ?_, ?_, ?_, ?_, ?_, ?_, ?_, ?_, ?_, ?_⟩
  · clear he f3 f4 f5 f6
    rcases w with ⟨⟨_, _, _, _⟩, ⟨_, _, _⟩, _, _, _, _, _, _, _, _, _, _, _, _⟩
    simp only [State.setMode] at h1 h2 h3 h4 h5 h6 h7 h8 h9 h10 h11 g1 g2 g3 g4
    subst h1 h2 h3 h4 h5 h6 h7 h8 h9 h10 h11 g1 g2 g3 g4
    rfl
  · exact h9
  · intro n
    have := f3 n
    show w.record n = none
    rw [this]; cases (s.setMode .parked).record n <;> simp
  · intro u
    show w.list u = _
    rw [f4]
    simp only [Bool.and_true]; rfl
  · intro u; simp [State.lockOf]
  · rfl
  · show s.coolant.park = _
    simp only [CoolantControl.park]; cases h : s.coolant.clutch <;> simp [CoolantControl.release, Config.guardTime]
  · rfl
  · rfl
  · rfl
  · have h := f5.congr_right (State.sameNotices_of (s := s) rfl rfl)
    exact ⟨h.1, h.2, h.3⟩
  · intro st; exact f6 st

/-- An ignition change to off in HOMING or RUN (R184). -/
theorem State.ignitionChange_off (x : State) (h : x.modes.mode = .homing ∨ x.modes.mode = .run) :
    x.ignitionChange false = x.enterParked := by
  unfold State.ignitionChange; rcases h with h | h <;> rw [h]

/-- An ignition change to on in PARKED (R184). -/
theorem State.ignitionChange_on (x : State) (h : x.modes.mode = .parked) :
    x.ignitionChange true = if x.homingFinished then x.enterRun else x.enterHoming := by
  unfold State.ignitionChange; rw [h]

/-- An expiry of the debounce timer at a difference is an ignition change (R183). -/
theorem State.debounceExpiry_change (s : State) (h : s.modes.debounce.isSome = true)
    (h1 : s.modes.ignition ≠ s.pins.ignition) :
   s.debounceExpiry = s.debounced.ignitionChange s.pins.ignition := by
  obtain ⟨d, hd⟩ := Option.isSome_iff_exists.1 h
  unfold State.debounceExpiry; rw [hd]; simp only []; rw [if_neg h1]

end Sys2Proof.Machine
end

