-- ==== Sys2Proof/Laws/Sharing.lean ====
section
/-! SUPPORT. The laws of stage 3 of an allocation: grants by zone, and the requests of a class (R75, R76). -/

namespace Sys2Proof.Machine

/-- The zones of a list of grants or requests. -/
def grantZones (l : List (Zone × Nat)) : List Zone := l.map (fun p => p.1)

/-- The grant of a zone in two lists of grants: the first that names it gives it. -/
theorem grantOf_append (a b : List (Zone × Nat)) (z : Zone) :
    grantOf (a ++ b) z = if z ∈ grantZones a then grantOf a z else grantOf b z := by
  unfold grantOf grantZones
  rw [List.find?_append]
  cases h : a.find? (fun p => p.1 == z) with
  | none =>
    rw [List.find?_eq_none] at h
    rw [if_neg]; rfl
    simp only [List.mem_map, not_exists, not_and]; intro p hp e; exact h p hp (by simpa using e)
  | some q =>
    have h1 := List.mem_of_find?_eq_some h
    have h2 := List.find?_some h
    rw [if_pos]; rfl
    exact List.mem_map.2 ⟨q, h1, by simpa using h2⟩

/-- A zone that is not named has grant 0 (R75). -/
theorem grantOf_none (g : List (Zone × Nat)) (z : Zone) (h : z ∉ grantZones g) : grantOf g z = 0 := by
  unfold grantOf
  cases h' : g.find? (fun p => p.1 == z) with
  | none => rfl
  | some q => exact absurd (List.mem_map.2 ⟨q, List.mem_of_find?_eq_some h', by simpa using List.find?_some h'⟩) h

/-- A zone that is named once has its grant. -/
theorem grantOf_mem (g : List (Zone × Nat)) (hg : (grantZones g).Nodup) (p) (hp : p ∈ g) : grantOf g p.1 = p.2 := by
  induction g with
  | nil => simp at hp
  | cons q g ih =>
    obtain ⟨h1, h2⟩ := List.nodup_cons.1 hg
    unfold grantOf; rw [List.find?_cons]
    rcases List.mem_cons.1 hp with rfl | hp
    · simp
    · have : ¬ q.1 = p.1 := fun e => h1 (List.mem_map.2 ⟨p, hp, e.symm⟩)
      have := ih h2 hp
      unfold grantOf at this
      rw [show (q.1 == p.1) = false by simpa using ‹¬ q.1 = p.1›]; exact this

/-- Sharing a class keeps its zones (R76). -/
theorem shareClass_zones (R) (l : List (Zone × Nat)) : grantZones (shareClass R l).1 = grantZones l := by
  unfold shareClass grantZones; simp only []; split <;> simp [Function.comp_def]

/-- The class of a zone's demand, 0 where it is served for none (R4, R72). -/
def ZonePlan.classOf (p : ZonePlan) : Nat := match p.demand with
      | .none => 0
      | .synthetic => 3
      | .record _ r => match r.kind with
        | .defrost => 1 | .seal => 1 | .rehab => 2 | .purge => 2 | .comfort => 3 | .fresh => 3

/-- The requests of a class are its zones with a request above 0 (R75). -/
theorem classRequests_eq (plans : List (Zone × ZonePlan)) (k : Nat) (hk : k ≠ 0) :
    classRequests plans k = (plans.filter (fun p => decide (p.2.classOf = k ∧ 0 < p.2.requested))).map
      (fun p => (p.1, p.2.requested)) := by
  induction plans with
  | nil => rfl
  | cons p l ih =>
    unfold classRequests at *
    rw [List.filterMap_cons, ih, List.filter_cons]
    have : p.2.classOf = match p.2.demand.kind with | none => 0 | some k => k.cls := by
      unfold ZonePlan.classOf Demand.kind; cases p.2.demand <;> simp [Kind.cls]
      rename_i r; cases r.kind <;> rfl
    rw [this]
    cases hd : p.2.demand.kind with
    | none => simp [Ne.symm hk]
    | some k' =>
      simp only []
      by_cases h : k'.cls = k ∧ 0 < p.2.requested
      · simp [h]
      · simp [h]

end Sys2Proof.Machine
end

