-- ==== Sys2Proof/WellFormed.lean ====
section
/-! DEFINITION. Which commands can come from outside: a frame is one the CAN port can see (R163), a lapse names a
station that can have a lapse timer (R42). The other operands are bounded by their types. -/

namespace Sys2Proof

/-- A CAN frame: an identifier of 11 bits in base format and of 29 bits in extended format, at most 8 data bytes,
and no data in a remote frame. -/
def CanFrame.wellFormed (f : CanFrame) : Bool :=
  decide (f.identifier < if f.extended then 536870912 else 2048) &&
  decide (f.data.length ≤ 8) &&
  (!f.remote || f.data.isEmpty)

/-- A command the outside can send. -/
def Instr.wellFormed : Instr → Bool
  | .frameReceived f => f.wellFormed
  | .lapse s => decide (s ≠ 0)
  | _ => true

end Sys2Proof
end

