-- ==== Sys2Proof/Tests/Slice0.lean ====
section
/-! SUPPORT. Tests: each check of WellFormed refuses an ill-formed term; the spec's worked values; one or two steps of each
command on small states; and for every statement with hypotheses a concrete state that meets them. -/

set_option maxRecDepth 8000

namespace Sys2Proof.Tests
open Sys2Proof Sys2Proof.Machine

/-! ## WellFormed -/

theorem test_frame_of_nine_bytes_refused :
    (Instr.frameReceived ⟨0x241, false, false, List.replicate 9 0⟩).wellFormed = false := by decide
theorem test_base_identifier_of_twelve_bits_refused :
    (Instr.frameReceived ⟨2048, false, false, []⟩).wellFormed = false := by decide
theorem test_extended_identifier_of_thirty_bits_refused :
    (Instr.frameReceived ⟨536870912, true, false, []⟩).wellFormed = false := by decide
theorem test_remote_frame_with_data_refused :
    (Instr.frameReceived ⟨0x241, false, true, [1]⟩).wellFormed = false := by decide
theorem test_lapse_of_the_monitor_refused : (Instr.lapse 0).wellFormed = false := by decide
theorem test_request_frame_accepted :
    (Instr.frameReceived ⟨0x241, false, false, List.replicate 8 0⟩).wellFormed = true := by decide

/-! ## The spec's worked values -/

/-- 8.4: raw 2300 with the built-in table is 187. -/
theorem test_thermistor_2300 : engineeringValue Layout.builtIn 0 2300 = 187 := by decide
/-- 8.4: raw 246 on channel 11 is 30 ppm, raw 1229 on channel 14 is 25 Pa, raw 40 on channel 12 is 10. -/
theorem test_linear_scaling : engineeringValue Layout.builtIn 11 246 = 30 ∧
    engineeringValue Layout.builtIn 14 1229 = 25 ∧ engineeringValue Layout.builtIn 12 40 = 10 := by decide
/-- 8.5: a channel set from 150 and steady at 187 rises by 9, 7, 5, 4, 3, 2, 1, 1, 1, 1 and stands at 184. -/
theorem test_filter_stops_short : (List.replicate 12 ()).foldl (fun v _ => filterStep 4 (some v) 187) 150 = 184 := by
  decide
/-- 4.3: from level 3, 113 gives 2, 118 gives 1, 125 gives 0; from level 2, 116 leaves 2 and 108 gives 3. -/
theorem test_voltage_levels : voltageLevel 3 113 = 2 ∧ voltageLevel 3 118 = 1 ∧ voltageLevel 3 125 = 0 ∧
    voltageLevel 2 116 = 2 ∧ voltageLevel 2 108 = 3 := by decide
/-- 4.10: class 2 of the loaded cab shares 105 as 59 and 46; with supply level 0 class 3 shares 17 as 11 and 6. -/
theorem test_class_sharing : shareClass 105 [(1, 80), (4, 63)] = ([(1, 59), (4, 46)], 0) ∧
    shareClass 17 [(2, 40), (3, 20)] = ([(2, 11), (3, 6)], 0) := by decide
/-- 4.10: the outlets of zones 1 and 4 go to 738 and 658; the duty of 165 under 220 is 750. -/
theorem test_outlet_and_duty : outletFor 59 8 = 738 ∧ outletFor 46 7 = 658 ∧ blowerDuty 165 220 = 750 := by decide
/-- 4.10: T_set 200 at 232 is served at level 4. -/
theorem test_auto_level : autoLevel 200 232 10 = 4 := by decide
/-- R89: with the gain at 25 and an error of -7 the term is -17. -/
theorem test_discharge_truncates : comfortTarget 215 222 25 none = 198 := by decide
/-- R91: one tenth above the cold deck with a spread of 400 gives 3. -/
theorem test_blend_rounds_up : comfortBlend 41 40 440 = 3 := by decide
/-- R150: T = 1200 and t = 738 give 886 steps, which report 738. -/
theorem test_positions : toSteps 1200 738 = 886 ∧ toPermille 1200 886 = 738 := by decide
/-- 7.7: the smoke plume's stepped duties: entry 500, 550 at 12 Pa, held at 44 Pa; 800 without channel 14. -/
theorem test_stepped_duty : steppedDuty none true false (some 6) 50 = 500 ∧
    steppedDuty (some 500) false false (some 12) 50 = 550 ∧ steppedDuty (some 650) false false (some 44) 50 = 650 ∧
    steppedDuty (some 650) false true (some 18) 50 = 650 ∧ steppedDuty (some 650) false false none 50 = 800 := by decide
/-- 1.12, step 3: level 14 and value 340 are stored as 10 and 300, CLAMPED; step 2: twelve minutes give 720 s. -/
theorem test_clamping : clampPost .comfort 10 14 340 = ⟨some 10, some 300, true⟩ ∧
    clampPost .rehab 10 3 12 = ⟨some 10, some 720, false⟩ := by decide
/-- No row of the table has bits, so no word spells a command. -/
theorem test_no_word_spells_a_command : decodeTableWord 32 0 = none := rfl

/-! ## Small states -/

/-- A state that runs in mode m with the link ONLINE and the ignition on. -/
def inMode (m : Mode) : State :=
  { State.reset with
    link := { state := .online }
    modes := { mode := m, ignition := true }
    pins := { Pins.atReset with ignition := true } }

/-- RUN. -/
abbrev run : State := inMode .run

/-- A request frame of station st at the head of the FIFO: its first bytes, then zeros up to 8. -/
def sent (s : State) (st : Station) (bytes : List Byte) : State :=
  { s with link := { s.link with rx := [{ station := st, data := bytes ++ List.replicate (8 - bytes.length) 0 }] } }

/-- The frame that `sent` puts there. -/
def frame (st : Station) (bytes : List Byte) : RxFrame :=
  { station := st, data := bytes ++ List.replicate (8 - bytes.length) 0 }

/-- The state after a command. -/
def after (c : Instr) (s : State) : Option State :=
  match exec c s with
  | .next t => some t
  | .fault _ => none
  | .refused _ => none

/-- The first frame queued after a command. -/
def reply (c : Instr) (s : State) : Option (Vector Byte 8) :=
  ((after c s).bind (fun t => t.link.tx.head?)).map (fun f => f.data)

/-- A COMFORT record of station 1 on zone 1. -/
def comfort : Record :=
  { target := 1, station := 1, kind := .comfort, postSeq := 0, level := some 5, value := some 215, state := .active,
    grantedFlow := some 40, grantedLevel := some 5 }

/-- s with one record in a slot, at the head of its list. -/
def holding (s : State) (n : Slot) (r : Record) : State :=
  let e := s.entry r.station
  (((s.setSlot n (some r)).setList r.target [n]).setEntry r.station { e with quota := e.quota - 1 })

/-- s with an actuator. -/
def withAct (s : State) (a : ActuatorId) (x : Actuator) : State := { s with drive := s.drive.setAct a x }

/-- The monitor in a contamination state, evaluating with both readings known. -/
def judging (s : State) (c : Contamination) : State :=
  { s with air := { contamination := c, evaluating := true, judgedCo := some 0, judgedParticle := some 0 } }

/-! ## The link and the requests -/

/-- R179: a good table memory enters HOMING with the link ONLINE. -/
theorem test_power_on : (after (.powerOnReset true) State.reset).map (fun t => (t.modes.mode, t.link.state)) =
    some (.homing, .online) := by decide
/-- R179: a bad one stays in START with code TABLE_MEMORY. -/
theorem test_power_on_bad_memory : (after (.powerOnReset false) State.reset).map
    (fun t => (t.modes.mode, t.store.selfCheck)) = some (.start, .tableMemory) := by decide
/-- R163: identifier 0x241 is a request of station 1. -/
theorem test_frame_received : (after (.frameReceived ⟨0x241, false, false, [9]⟩) run).map (fun t => t.link.rx) =
    some [⟨1, [9]⟩] := by decide
/-- R163: 0x250 is no request identifier. -/
theorem test_frame_ignored : (after (.frameReceived ⟨0x250, false, false, [9]⟩) run).map (fun t => t.link.rx) =
    some [] := by decide
/-- 1.12, step 1: COMFORT on zone 1, level 0, value 215, from station 1: slot 0, PENDING, OK. -/
theorem test_post : reply .post (sent run 1 [1, 0x13, 0, 0, 215]) =
    some #v[0x81, 0x00, 0, 0x13, 0x11, 0x00, 0, 215] := by decide
/-- 1.12, step 4: zone 5 is absent: BAD_TARGET with the empty record. -/
theorem test_post_absent_zone : reply .post (sent run 2 [1, 0x51, 0, 0, 0]) =
    some #v[0x81, 0x03, 0xFF, 0, 0, 0, 0, 0] := by decide
/-- R16: the record as it stood, OK. -/
theorem test_withdraw_by_key : reply .withdrawByKey (sent (holding run 0 comfort) 1 [2, 0, 0x13]) =
    some #v[0x82, 0x00, 0, 0x13, 0x31, 0x55, 0, 215] := by decide
/-- 1.12, step 6: another station's slot: NOT_OWNER. -/
theorem test_withdraw_by_slot_not_owner : reply .withdrawBySlot (sent (holding run 0 comfort) 2 [2, 1, 0]) =
    some #v[0x82, 0x09, 0xFF, 0, 0, 0, 0, 0] := by decide
/-- R18: another station's own key finds nothing. -/
theorem test_lookup_by_key : reply .lookupByKey (sent (holding run 0 comfort) 2 [3, 0, 0x13]) =
    some #v[0x83, 0x08, 0xFF, 0, 0, 0, 0, 0] := by decide
/-- R18: by slot, whosever the record is. -/
theorem test_lookup_by_slot : reply .lookupBySlot (sent (holding run 0 comfort) 2 [3, 1, 0]) =
    some #v[0x83, 0x00, 0, 0x13, 0x31, 0x55, 0, 215] := by decide
/-- R39, R175: one slot, the final mark, part 0. -/
theorem test_list : reply .list (sent (holding run 0 comfort) 2 [4, 1]) =
    some #v[0x84, 0x80, 0, 0xFF, 0xFF, 0xFF, 0xFF, 0xFF] := by decide
/-- R57: of the value 0x12 the low four bits count, RETIRE alone. -/
theorem test_refresh : reply .refresh (sent run 1 [5, 0x12]) = some #v[0x85, 0, 2, 0, 0, 0, 0, 0] := by decide
/-- R51: station 1 takes the intake's lock. -/
theorem test_lock : (after .lock (sent run 1 [6, 8])).map (fun t => t.lockOf 8) = some (some 1) := by decide
/-- R53: a free lock is NOT_FOUND. -/
theorem test_unlock_free : reply .unlock (sent run 1 [7, 8]) = some #v[0x87, 8, 0, 0, 0, 0, 0, 0] := by decide
/-- R53: the service tool frees another station's lock. -/
theorem test_unlock_by_service : (after .unlock (sent (run.setLock 8 (some 1)) 15 [7, 8])).map (fun t => t.lockOf 8) =
    some none := by decide
/-- R101: before the first allocation both temperatures are unavailable and there is no governing slot. -/
theorem test_zone_page0 : reply .zoneStatusPage0 (sent run 1 [8, 1, 0]) =
    some #v[0x88, 0x00, 0x80, 0, 0x80, 0, 0, 0xFF] := by decide
/-- R175: a FAULTED blend door with reason STALL is 0x35, at 867 here. -/
theorem test_zone_page1 :
    reply .zoneStatusPage1 (sent (withAct run 10 { state := .faulted, reason := .stall, reported := 867, target := 0 }) 1
      [8, 1, 1]) = some #v[0x88, 0x10, 0, 0, 0, 0x03, 0x63, 0x35] := by decide
/-- R175: RUN, LAYOUT_DEFAULT, SUSPECT, GUARD. -/
theorem test_plant_status : reply .plantStatus (sent run 3 [9]) = some #v[0x89, 0x90, 0x10, 0x80, 0, 0, 0, 0] := by
  decide
/-- R60: without the SUPPLY right the level is refused. -/
theorem test_supply_refused : reply .supply (sent run 1 [10, 2]) = some #v[0x8A, 2, 0, 0, 0, 0, 0, 0] := by
  decide
/-- R180: LAYOUT_READ needs the SERVICE right. -/
theorem test_layout_read_needs_service : reply .layoutRead (sent run 1 [11, 0, 1]) =
    some #v[0x8B, 2, 0, 0, 0, 0, 0, 0] := by decide
/-- R180: no item has number 0xFFFF. -/
theorem test_layout_write_unknown_item : reply .layoutWrite (sent run 15 [12, 0xFF, 0xFF, 0, 1]) =
    some #v[0x8C, 12, 0, 0, 0, 0, 0, 0] := by decide
/-- R181: the write begins. -/
theorem test_layout_store : (after .layoutStore (sent run 15 [13])).map (fun t => t.store.result) = some .writing := by
  decide
/-- R182: the restart waits for its answer. -/
theorem test_restart : (after .restart (sent run 15 [14])).map (fun t => (t.link.restartAwaited, t.modes.mode)) =
    some (true, .run) := by decide
/-- R166: byte 0 of 0x0F names no request. -/
theorem test_bad_request : reply .badRequest (sent run 1 [0x0F]) = some #v[0x8F, 11, 0, 0, 0, 0, 0, 0] := by
  decide
/-- R163: a notice to station 1 goes out on 0x2C1. -/
theorem test_outgoing_identifier : (State.transmitting { run with link := { run.link with
    tx := [⟨1, #v[1, 0, 0, 0, 0, 0, 0, 0]⟩] } }) = some ⟨0x2C1, false, false, [1, 0, 0, 0, 0, 0, 0, 0]⟩ := by decide
/-- R169: the head frame leaves. -/
theorem test_transmission : (after .transmissionComplete
    { run with link := { run.link with tx := [⟨1, #v[1, 0, 0, 0, 0, 0, 0, 0]⟩] } }).map (fun t => t.link.tx) = some [] := by
  decide
/-- R170: a discarded notice sets its station's flag again. -/
theorem test_bus_off : (after .busOff
    { run with link := { run.link with tx := [⟨1, #v[1, 0, 0, 0, 0, 0, 0, 0]⟩] } }).map
      (fun t => (t.link.state, (t.entry 1).overrun, (t.entry 2).overrun)) = some (.offline, true, false) := by
  decide
/-- R50: a held timer restarts at the full interval, 10 s for a panel. -/
theorem test_recovery : (after .busOffRecovery
    ({ run with link := { run.link with state := .offline, busOff := true } }.setEntry 1
      { run.entry 1 with lapse := .held 3 })).map (fun t => (t.entry 1).lapse) = some (.running 10000) := by decide
/-- R49: the record is retired and the station SILENT. -/
theorem test_lapse : (after (.lapse 1)
    ((holding run 0 comfort).setEntry 1 { run.entry 1 with lapse := .running 0, quota := 5 })).map
      (fun t => (t.record 0, (t.entry 1).presence, (t.entry 1).quota)) = some (none, .silent, 6) := by decide
/-- R19, R20: the last second of a served REHAB retires it with EXPIRED. -/
theorem test_duration : reply .durationTimerExpiry
    (holding run 0 { comfort with kind := .rehab, value := some 1 }) =
    some #v[2, 2, 0, 0x12, 0x31, 0x55, 0, 0] := by decide

/-! ## The plant -/

/-- R73: an AUTO demand whose zone has no temperature is served at level 2, 16 l/s. -/
theorem test_allocation : (after .allocation (holding run 0 { comfort with level := some 0 })).map
    (fun t => (t.climate.blowerFlow, (t.record 0).map (fun r => (r.state, r.grantedFlow, r.grantedLevel)))) =
    some (16, some (.active, some 16, some 2)) := by decide
/-- R140: the built-in enable set holds 0, 1, 2 and 8 to 15. -/
theorem test_scan : (after .scanTimerExpiry run).map (fun t => t.scanner.scan) =
    some [0, 1, 2, 8, 9, 10, 11, 12, 13, 14, 15] := by decide
/-- R108: the first valid sample of channel 8, below 10, clears SENSOR and sets FREEZE: raw 2304 + 768 is -10. -/
theorem test_conversion : (after (.conversionComplete 3072)
    { run with scanner := { run.scanner with scan := [8] } }).map
      (fun t => (t.healthy 8, t.coolant.lockouts.sensor, t.coolant.lockouts.freeze)) =
    some (some (-10), false, true) := by decide
/-- R141: the third out-of-range sample in a row is a fault. -/
theorem test_conversion_fault : (after (.conversionComplete 4056)
    (({ run with scanner := { run.scanner with scan := [0] } } : State).setChannel 0
      { condition := .valid, filtered := some 200, outOfRange := 2 })).map (fun t => t.channel 0) =
    some { condition := .faulted, filtered := some 200, outOfRange := 3 } := by decide
/-- R122, R125: the dwell's end seals the cab. -/
theorem test_dwell : (after .dwellTimerExpiry
    { judging run .suspect with air := { (judging run .suspect).air with dwellTimer := some 0 } }).map
      (fun t => (t.air.contamination, t.intake.doorTarget, (t.record 38).map (fun r => (r.station, r.kind)))) =
    some (.contaminated, 0, some (0, .seal)) := by decide
/-- R123, R125: the clear hold's end retires slot 38. -/
theorem test_clear_hold : (after .clearHoldExpiry
    { judging run.postSeal .contaminated with
      air := { (judging run .contaminated).air with clearHoldTimer := some 0 } }).map
      (fun t => (t.air.contamination, t.record 38, (t.entry 0).quota)) = some (.clear, none, 2) := by decide
/-- R127: the cab clear hold's end retires slot 39. -/
theorem test_cab_clear_hold : (after .cabClearHoldExpiry
    { run.postPurge with air := { run.air with cabHigh := true, cabClearTimer := some 0 } }).map
      (fun t => (t.air.cabHigh, t.record 39)) = some (false, none) := by decide
/-- R129: with no intake record the door goes to the default fresh fraction, 300. -/
theorem test_intake : (after .intakeComputation (judging run .clear)).map (fun t => (t.intake.doorTarget,
    t.fans.fanDuty)) = some (300, 0) := by decide
/-- 7.7, 106.4: SEAL governs, entry into pressurizing; channel 14 is healthy at 6 Pa. -/
theorem test_intake_seal : (after .intakeComputation
    ((judging run.postSeal .contaminated).setChannel 14 { condition := .valid, filtered := some 6 })).map
      (fun t => (t.intake.doorTarget, t.fans.fanDuty, (t.record 38).map (fun r => r.state))) =
    some (0, 500, some .active) := by decide
/-- 7.7: a door that opens brings 1000 at once. -/
theorem test_door : (after (.doorSwitchChange 0 true)
    { run with intake := { run.intake with pressurizing := true, steppedDuty := some 650 } }).map
      (fun t => t.fans.fanDuty) = some 1000 := by decide
/-- 7.7: boost's end hands 650. -/
theorem test_boost : (after .boostTimerExpiry
    { run with intake := { run.intake with pressurizing := true, steppedDuty := some 650, boostTimer := some 0 } }).map
      (fun t => t.fans.fanDuty) = some 650 := by decide
/-- R113: with no lockout and no request GUARD ends in OFF. -/
theorem test_guard : (after .guardTimerExpiry
    { run with coolant := { run.coolant with lockouts := { pressure := false, sensor := false } } }).map
      (fun t => t.coolant.clutch) = some .off := by decide
/-- R112: the request is gone when the minimum-on time ends. -/
theorem test_minimum_on : (after .minimumOnTimerExpiry
    { run with coolant := { lockouts := { pressure := false, sensor := false }, clutch := .on, guardTimer := none,
                            minOnTimer := some 0, cooling := false } }).map
      (fun t => (t.coolant.clutch, t.coolant.guardTimer)) = some (.guard, some 30000) := by decide
/-- R112: the switch opens under a running compressor. -/
theorem test_pressure : (after (.highPressureSwitchChange true)
    { run with coolant := { lockouts := { pressure := false, sensor := false }, clutch := .on, guardTimer := none,
                            minOnTimer := some 5, cooling := true } }).map
      (fun t => (t.coolant.clutch, t.coolant.guardTimer)) = some (.locked, some 30000) := by decide
/-- R109: PRESSURE clears at the end of the hold. -/
theorem test_pressure_hold : (after .pressureHoldExpiry
    { run with coolant := { run.coolant with lockouts := { pressure := true }, pressureHold := some 0 } }).map
      (fun t => t.coolant.lockouts.pressure) = some false := by decide
/-- R111, R112: a request arriving in OFF engages the clutch; one that goes after the minimum-on time releases it. -/
theorem test_cooling_request :
    ((State.reset.coolant.judge ⟨false, false, false, false, false⟩).guardExpiry.handCooling true).clutch = .on ∧
    (({ State.reset.coolant with clutch := .on, cooling := true } : CoolantControl).handCooling false).clutch = .guard := by
  decide
/-- R160: an assertion starts a pause of 10 s. -/
theorem test_over_current : (after (.overCurrentAssertion true) run).map (fun t => t.fans.pauseTimer) =
    some (some 10000) := by decide
/-- R160: the pause ends with the input clear. -/
theorem test_pause : (after .pauseTimerExpiry { run with fans := { run.fans with pauseTimer := some 0 } }).map
    (fun t => t.fans.pauseTimer) = some none := by decide
/-- 9.7: the step after 399 of A2's move reports 333. -/
theorem test_step : (after (.actuatorStep 2)
    (withAct run 2 { state := .moving, travel := some 1200, step := some 399, reported := 333, target := 738 })).map
      (fun t => ((t.drive.act 2).step, (t.drive.act 2).reported)) = some (some 400, 333) := by decide
/-- R155: at 886 of 1200 a target of 738 is reached. -/
theorem test_move_complete : (after (.moveComplete 2)
    (withAct run 2 { state := .moving, travel := some 1200, step := some 886, reported := 738, target := 738 })).map
      (fun t => (t.drive.act 2).state) = some .ready := by decide
/-- 9.7: A10 stalls opening at 360, below the lower limit of 400. -/
theorem test_homing_stall_short : (after (.homingStall 10)
    (withAct run 10 { state := .homing, phase := .opening, step := some 0, count := 360, target := 500 })).map
      (fun t => ((t.drive.act 10).state, (t.drive.act 10).reason)) = some (.faulted, .travel) := by decide
/-- 9.7: A9 stalls opening at 2000 and moves towards 500. -/
theorem test_homing_stall : (after (.homingStall 9)
    (withAct run 9 { state := .homing, phase := .opening, step := some 0, count := 2000, target := 500 })).map
      (fun t => ((t.drive.act 9).state, (t.drive.act 9).targetSteps)) = some (.moving, 1000) := by decide
/-- 9.7: A3 closes 5000 steps without a stall. -/
theorem test_no_stop : (after (.homingNoStop 3)
    (withAct run 3 { state := .homing, phase := .closing, count := 5000, target := 0 })).map
      (fun t => (t.drive.act 3).reason) = some .noStop := by decide
/-- R152: the count has passed the upper limit of 4000. -/
theorem test_travel_overrun : (after (.homingTravelOverrun 3)
    (withAct run 3 { state := .rehoming, phase := .opening, step := some 0, count := 4001, target := 0 })).map
      (fun t => (t.drive.act 3).reason) = some .travel := by decide
/-- 9.7: A2's second stall is the fault STALL. -/
theorem test_stall : (after (.stall 2)
    (withAct run 2 { state := .moving, travel := some 1200, step := some 1040, reported := 867, target := 750,
                     rehomeMark := true })).map
      (fun t => ((t.drive.act 2).reason, (t.drive.act 2).reported)) = some (.stall, 867) := by decide
/-- R183: a change starts the debounce. -/
theorem test_ignition : (after (.ignitionInputChange false) run).map (fun t => t.modes.debounce) = some (some 500) := by
  decide
/-- R185, R22: off retires the records and parks. -/
theorem test_ignition_off : (after .ignitionDebounceExpiry
    { holding run 0 comfort with modes := { mode := .run, ignition := true, debounce := some 0 },
                                 pins := Pins.atReset }).map
      (fun t => (t.modes.mode, t.record 0)) = some (.parked, none) := by decide
/-- R181: a failed write. -/
theorem test_store_write_end : (after (.storeWriteEnd false)
    { run with store := { run.store with result := .writing } }).map (fun t => t.store.result) = some .failed := by
  decide
/-- The front command runs on the queue's rest. -/
theorem test_step_takes_front : step (run.withPending [.refresh, .lock]) = exec .refresh (run.withPending [.lock]) := rfl

/-- R175, R176: item 0x0200, Bmax, is 240. -/
theorem test_layout_read_bmax : reply .layoutRead (sent run 15 [11, 2, 0]) =
    some #v[0x8B, 0, 2, 0, 0, 240, 0, 0] := by decide
/-- R176: item 0x0518, the last thermistor temperature, takes -400 in two's complement. -/
theorem test_layout_write_signed : (after .layoutWrite (sent run 15 [12, 5, 0x18, 0xFE, 0x70])).map
    (fun t => t.store.image.get (.thermistor 8)) = some (-400) := by decide

/-! ## Witnesses: concrete states and operands that meet the hypotheses of each statement -/

/-- The head frame that `sent` puts there can be taken by the running machine. -/
theorem sent_canTake (st : Station) (bytes : List Byte) (n : Nat) (h : n ≤ 24) :
    (sent run st bytes).CanTake (frame st bytes) [] n := ⟨rfl, rfl, rfl, by simpa [sent, run, inMode] using h⟩

/-- s with frames in the outgoing queue. -/
def queued (s : State) (l : List TxFrame) : State := { s with link := { s.link with tx := l } }
/-- An accepted RESTART's answer. -/
def restartFrame : TxFrame := ⟨15, #v[0x8E, 0, 0, 0, 0, 0, 0, 0]⟩
/-- A STATE notice. -/
def noticeFrame : TxFrame := ⟨1, #v[1, 0, 0, 0x13, 0x31, 0x55, 0, 215]⟩
/-- A restart has been taken. -/
def restarting (s : State) : State := { s with link := { s.link with restartAwaited := true } }
/-- The link OFFLINE, in bus-off. -/
def offline : State := { run with link := { state := .offline, busOff := true } }
/-- A scan stands at channel c. -/
def scanning (s : State) (c : ChannelId) : State := { s with scanner := { s.scanner with scan := [c] } }
/-- Every present actuator READY at its park position. -/
def homed (s : State) : State :=
  { s with drive := { actuators := Vector.ofFn (fun a =>
    if s.actPresent a then
      { state := .ready, travel := some 1000, step := some (parkPosition a), reported := parkPosition a,
        target := parkPosition a }
    else Actuator.afterReset a) } }

theorem witness_StepTakesFrontCommand : (run.withPending [.lock, .list]).pending = .lock :: [.list] := rfl
theorem witness_IdleStepLetsOneMillisecondPass : State.reset.pending = [] := rfl
theorem witness_CommandsKeepQueueLayoutAndPins :
    (∃ t, exec (.doorSwitchChange 5 true) run = .next t) ∧ (∃ t, exec .refresh run = .next t) ∧ mayReset .refresh = false :=
  ⟨⟨_, rfl⟩, ⟨_, rfl⟩, rfl⟩
theorem witness_PowerOnResetClearsEveryBlock :
    State.reset.store.nvAtReset.load = (Layout.builtIn, .layoutDefault) ∧ Layout.builtIn.enabled 11 = true :=
  ⟨rfl, by decide⟩
theorem witness_PowerOnResetClearsEveryBlock_store : State.reset.store.result ≠ .writing ∧
    ({ State.reset.store with result := .writing } : LayoutStore).result = .writing := by decide

/-- A cab without intake gas channels, with a CO alarm threshold. -/
def sealedCab (coAlarm : Nat) : Layout := { Layout.builtIn with enableSet := 0xE707, coAlarm := coAlarm }
/-- A device whose store holds an image. -/
def stored (l : Layout) : State := { State.reset with store := { State.reset.store with nv := .written l l.crc } }
theorem sealedCab_repair (n : Nat) (h : n = 25 ∨ n = 50) : (sealedCab n).repair = sealedCab n := by
  rcases h with rfl | rfl <;> decide +kernel
theorem load_stored (l : Layout) (h : l.repair = l) : (stored l).store.nvAtReset.load = (l, .pass) := by
  show NvStore.load (.written l l.crc) = _
  simp [NvStore.load, h]
/-- The state of evaluation at once (alarm 25) and the dwell (alarm 50). -/
theorem witness_ResetWithoutGasSensorsStartsEvaluation : ∀ n, n = 25 ∨ n = 50 →
    (stored (sealedCab n)).store.nvAtReset.load = (sealedCab n, .pass) ∧
    (sealedCab n).enabled 11 = false ∧ (sealedCab n).enabled 12 = false := fun n h =>
  ⟨load_stored _ (sealedCab_repair n h), by rcases h with rfl | rfl <;> decide⟩
theorem witness_HomingTakesChannelsInOrder : ∃ t, exec (.powerOnReset true) State.reset = .next t := ⟨_, rfl⟩
theorem witness_LoadTakesTheImageOrDefaults :
    Layout.builtIn.crc ≠ Layout.builtIn.crc ^^^ 0xFFFF#16 ∧
    (∀ i : Item, i.inRange (Layout.builtIn.get i) = true) ∧
    (∀ c : Fin 5, Layout.builtIn.get (.scaleLo c) < Layout.builtIn.get (.scaleHi c)) ∧
    Layout.builtIn.travelLow < Layout.builtIn.travelHigh := by
  refine ⟨?_, ?_, by decide, by decide⟩
  · generalize Layout.builtIn.crc = x
    intro h
    have h2 := congrArg (fun y : BitVec 16 => y.getLsbD 0) h
    simp at h2
  · intro i
    rcases i with ⟨z, f⟩ | ⟨i, f⟩ | f | i | c | c
    · revert z; cases f <;> decide
    · revert i; cases f <;> decide
    · cases f <;> decide
    · revert i; decide
    · revert c; decide
    · revert c; decide
/-- An item out of range, and a scaling pair out of order. -/
theorem witness_LoadTakesTheImageOrDefaults_bad :
    (Item.plain .bmax).inRange ((Layout.builtIn.set (.plain .bmax) 481).get (.plain .bmax)) = false ∧
    ¬ (Layout.builtIn.set (.scaleLo 0) 500).get (.scaleLo 0) < (Layout.builtIn.set (.scaleLo 0) 500).get (.scaleHi 0) := by
  decide
theorem witness_StoreWriteEndRestartsOrFails :
    ({ run with store := { run.store with result := .writing } } : State).store.result = .writing ∧
    run.store.result ≠ .writing := ⟨rfl, by decide⟩
/-- Stations 0 and 15; the identifiers next to them; a remote and an extended frame; OFFLINE. -/
theorem witness_FrameReceivedJoinsFifoOrSetsOverrun :
    run.link.state = .online ∧ (0x240 : Nat) = 0x240 + (0 : Station).val ∧ (0x24F : Nat) = 0x240 + (15 : Station).val ∧
    (0x23F : Nat) < 0x240 ∧ 0x24F < (0x250 : Nat) ∧ offline.link.state = .offline ∧ (List.replicate 8 (0 : Byte)).length ≤ 8 ∧
    (CanFrame.mk 0x241 true false []).extended = true ∧ (CanFrame.mk 0x241 false true []).remote = true := by decide
theorem witness_TransmissionRemovesHeadFrame :
    ((queued run [noticeFrame]).link.state = .online ∧ (queued run [noticeFrame]).link.tx = noticeFrame :: [] ∧
      run.link.restartAwaited = false) ∧
    ((queued (restarting run) [noticeFrame]).link.restartAwaited = true ∧ noticeFrame.isRestartAnswer = false) ∧
    ((queued (restarting run) [restartFrame]).link.restartAwaited = true ∧
      (queued (restarting run) [restartFrame]).link.state = .online ∧ restartFrame.isRestartAnswer = true) ∧
    offline.link.state = .offline ∧ run.link.tx = [] := by decide
theorem witness_BusOffDiscardsQueuesAndHoldsTimers :
    ((queued run [noticeFrame]).link.state = .online ∧ (queued run [noticeFrame]).link.restartAwaited = false) ∧
    (∀ f ∈ (queued (restarting run) [noticeFrame]).link.tx, f.isRestartAnswer = false) ∧
    (restartFrame ∈ (queued (restarting run) [noticeFrame, restartFrame]).link.tx ∧ restartFrame.isRestartAnswer = true) ∧
    offline.link.state = .offline := by decide
theorem witness_RecoveryRestartsHeldTimers : offline.link.busOff = true ∧ run.link.busOff = false := ⟨rfl, rfl⟩
theorem witness_TakingCountsTheFrameOrItWaits :
    ((frame 1 [5]).data.length = 8 ∧ run.defined (frame 1 [5]).station = true) ∧
    ((⟨1, [5]⟩ : RxFrame).data.length ≠ 8 ∧ run.defined 3 = false) ∧
    (Instr.badRequest ∈ requestRows ∧ run.link.rx = []) ∧ offline.link.state = .offline ∧
    (restarting run).link.restartAwaited = true ∧
    24 ≤ (queued run (List.replicate 24 noticeFrame)).link.tx.length + run.link.reserved ∧
    (let s := sent (queued run (List.replicate 24 noticeFrame)) 1 [4, 1]
     s.link.rx = frame 1 [4, 1] :: [] ∧ (frame 1 [4, 1]).isRequest 4 = true ∧ s.modes.mode ≠ .start ∧
     s.defined 1 = true ∧ s.store.live.presentTarget ((frame 1 [4, 1]).num 1) = some 1 ∧
     24 < s.link.tx.length + s.link.reserved + max 1 (((s.list 1).length + 5) / 6)) := by decide
/-- The widest fields that a record holds. -/
theorem witness_NoticesAreFilteredPlacedOrDropped :
    let r : Record := { comfort with level := some 15, value := some 65535, grantedLevel := some 15 }
    15 < 16 ∧ r.level.getD 0 < 16 ∧ r.grantedLevel.getD 0 < 16 ∧ r.value.getD 0 < 65536 := by decide
/-- Length 7, byte 0 of 0, byte 0 of 15. -/
theorem witness_BadRequestIsAnswered :
    (∃ s : State, s.CanTake ⟨1, List.replicate 7 1⟩ [] 1 ∧ (⟨1, List.replicate 7 1⟩ : RxFrame).data.length ≠ 8) ∧
    ((sent run 1 [0]).CanTake (frame 1 [0]) [] 1 ∧ (frame 1 [0]).num 0 = 0) ∧
    ((sent run 1 [15]).CanTake (frame 1 [15]) [] 1 ∧ 14 < (frame 1 [15]).num 0) :=
  ⟨⟨{ run with link := { run.link with rx := [⟨1, List.replicate 7 1⟩] } }, ⟨rfl, rfl, rfl, by decide⟩, by decide⟩,
   ⟨sent_canTake _ _ _ (by decide), by decide⟩, ⟨sent_canTake _ _ _ (by decide), by decide⟩⟩
theorem witness_AnswerFrameIsPlacedAtTheTail :
    comfort.level.getD 0 < 16 ∧ comfort.grantedLevel.getD 0 < 16 ∧ comfort.value.getD 0 < 65536 := by decide
theorem witness_TakingCountsTheFrameOrItWaits_rows : (sent run 1 [1]).link.rx = frame 1 [1] :: [] ∧
    (frame 1 [1]).isRequest 1 = true ∧ (frame 1 [1]).isRequest 4 = false := by decide
theorem witness_PostIsJudgedInOrder :
    (sent run 1 [1, 0x13, 0, 0, 215]).CanTake (frame 1 [1, 0x13, 0, 0, 215]) [] 1 ∧
    (frame 1 [1, 0x13, 0, 0, 215]).isRequest 1 = true := ⟨sent_canTake _ _ _ (by decide), by decide⟩

/-- 1.12, step 1: the checks pass for COMFORT on zone 1. -/
theorem comfort_passes (s : State) (h1 : s.modes.mode = .run) (h2 : s.store.live = Layout.builtIn)
    (h3 : s.lockOf 1 = none) : s.PostPasses (frame 1 [1, 0x13, 0, 0, 215]) 1 .comfort where
  mode := .inr h1
  defined := by simp only [State.defined, h2]; decide
  target := by rw [h2]; decide
  kind := by decide
  allowed := by decide
  targetRight := by simp only [State.config, h2]; decide
  kindRight := by simp only [State.config, h2]; decide
  lock := by simp [h3]
theorem witness_PostCreatesPendingRecord :
    (sent run 1 [1, 0x13, 0, 0, 215]).CanTake (frame 1 [1, 0x13, 0, 0, 215]) [] 1 ∧
    (sent run 1 [1, 0x13, 0, 0, 215]).PostPasses (frame 1 [1, 0x13, 0, 0, 215]) 1 .comfort ∧
    (frame 1 [1, 0x13, 0, 0, 215]).isRequest 1 = true ∧ (0 : Slot).val < 38 ∧
    (∀ m, (sent run 1 [1, 0x13, 0, 0, 215]).record m = none) ∧
    ((sent run 1 [1, 0x13, 0, 0, 215]).entry 1).quota ≠ 0 ∧ (∀ m : Slot, ¬ m.val < (0 : Slot).val) :=
  ⟨sent_canTake _ _ _ (by decide), comfort_passes _ rfl rfl (by decide), by decide, by decide, by decide, by decide,
   by decide⟩
/-- A FRESH record that was judged first on the intake is displaced by a new SEAL. -/
theorem witness_PostCreatesPendingRecord_displacing :
    (holding run 0 { comfort with target := 8, kind := .fresh }).displacedBy 8 (Kind.cls .seal) 0 := by
  refine ⟨by decide, by decide, by decide⟩
theorem witness_PostAmendsMatchingRecord :
    (sent (holding run 0 comfort) 1 [1, 0x13, 0, 0, 215]).CanTake (frame 1 [1, 0x13, 0, 0, 215]) [] 1 ∧
    (sent (holding run 0 comfort) 1 [1, 0x13, 0, 0, 215]).PostPasses (frame 1 [1, 0x13, 0, 0, 215]) 1 .comfort ∧
    (holding run 0 comfort).record 0 = some comfort ∧ (∀ m, m ≠ 0 → (holding run 0 comfort).record m = none) :=
  ⟨⟨rfl, rfl, rfl, by decide⟩, comfort_passes _ rfl rfl (by decide), by decide, by decide⟩
/-- A new record on an empty list, and a new SEAL ahead of a FRESH record that was judged first. -/
theorem witness_InsertionGoesAfterTheLastOfItsClass :
    (run.record 0 = none ∧ ({ comfort with state := .pending } : Record).state = .pending) ∧
    (let s := holding run 0 { comfort with target := 8, kind := .fresh }
     s.record 38 = none ∧ (s.list 8).head? = some 0 ∧ (s.list 8).any (s.classAtMost 1) = false ∧
     (s.displacements 8 1).length = 1) := by decide
theorem witness_PostedFieldsAreClamped : 1 ≤ (1 : Nat) ∧ 1 ≤ (10 : Nat) := by decide
/-- By key and by slot, accepted; then every refusal. -/
theorem witness_WithdrawRetiresOwnRecordOrIsRefused :
    (((sent (holding run 0 comfort) 1 [2, 0, 0x13]).CanTake (frame 1 [2, 0, 0x13]) [] 1 ∧
        (frame 1 [2, 0, 0x13]).isRequest 2 = true ∧ (frame 1 [2, 0, 0x13]).num 2 / 16 = comfort.target.val ∧
        (frame 1 [2, 0, 0x13]).num 2 % 16 = comfort.kind.code)) ∧
    ((sent (holding run 0 comfort) 1 [2, 1, 0]).CanTake (frame 1 [2, 1, 0]) [] 1 ∧ (frame 1 [2, 1, 0]).num 1 = 1 ∧
      (frame 1 [2, 1, 0]).num 2 = (0 : Slot).val) ∧
    (sent (holding run 0 comfort) 2 [2, 0, 0x13]).keyNamed (frame 2 [2, 0, 0x13]) 2 = none ∧
    slotOf ((frame 2 [2, 1, 40]).num 2) = none ∧ comfort.station ≠ (frame 2 [2, 1, 0]).station ∧
    1 < (frame 1 [2, 2]).num 1 ∧ run.defined 3 = false ∧ (inMode .start).modes.mode = .start :=
  ⟨⟨⟨rfl, rfl, rfl, by decide⟩, by decide, by decide, by decide⟩, ⟨⟨rfl, rfl, rfl, by decide⟩, by decide, by decide⟩,
   by decide, by decide, by decide, by decide, by decide, rfl⟩
theorem witness_WithdrawRetiresOwnRecordOrIsRefused_slots :
    (holding run 0 comfort).record 0 = some comfort ∧ run.record 0 = none := by decide
theorem witness_LookupAnswersTheRecord :
    (sent run 1 [3, 0, 0x13]).CanTake (frame 1 [3, 0, 0x13]) [] 1 ∧ (frame 1 [3, 0, 0x13]).isRequest 3 = true ∧
    (frame 1 [3, 0, 0x13]).num 1 ≠ 1 ∧ (frame 1 [3, 1, 0]).num 1 ≠ 0 :=
  ⟨sent_canTake _ _ _ (by decide), by decide, by decide, by decide⟩
theorem witness_ListSendsTheSlotsInOrder :
    (frame 1 [4, 1]).isRequest 4 = true ∧ run.modes.mode ≠ .start ∧ run.defined 1 = true ∧
    run.store.live.presentTarget ((frame 1 [4, 1]).num 1) = some 1 ∧ (sent run 1 [4, 1]).CanTake (frame 1 [4, 1]) [] 1 ∧
    run.store.live.presentTarget ((frame 1 [4, 9]).num 1) = none ∧ (sent run 1 [4, 9]).CanTake (frame 1 [4, 9]) [] 1 :=
  ⟨by decide, by decide, by decide, by decide, sent_canTake _ _ _ (by decide), by decide, sent_canTake _ _ _ (by decide)⟩
/-- A served PURGE of the monitor with one second left, and CAB_HIGH. -/
theorem witness_DurationExpiryCountsDownServedRecords :
    run.air.cabHigh = false ∧
    (let r : Record := { target := 8, station := 0, kind := .purge, postSeq := 0, level := none, value := some 1,
                         state := .active, grantedFlow := none, grantedLevel := none }
     let s := { holding run 39 r with air := { run.air with cabHigh := true } }
     s.record purgeSlot = some r ∧ r.counts = true ∧ r.value = some 1 ∧ 1 ≤ 1 ∧ s.air.cabHigh = true ∧ s.serving = true) := by
  decide
theorem witness_LapseRetiresTheStationsRecords :
    ((run.setEntry 1 { run.entry 1 with lapse := .running 0 }).entry 1).lapse = .running 0 ∧
    (∀ ms, (run.entry 2).lapse ≠ .running ms) := ⟨by decide, by intro ms h; exact nomatch (show LapseTimer.stopped = _ from h)⟩
theorem witness_RefreshSetsTheNoticeMask :
    (sent run 1 [5, 0xFF]).CanTake (frame 1 [5, 0xFF]) [] 1 ∧ (frame 1 [5, 0xFF]).isRequest 5 = true :=
  ⟨sent_canTake _ _ _ (by decide), by decide⟩
theorem witness_LockIsTakenOrRefused :
    (sent run 1 [6, 8]).CanTake (frame 1 [6, 8]) [] 1 ∧ (frame 1 [6, 8]).isRequest 6 = true :=
  ⟨sent_canTake _ _ _ (by decide), by decide⟩

/-- A state at rest in PARKED, with an UNLOCK waiting. -/
def parkedUnlock : State := sent (inMode .parked) 1 [7, 8]
theorem parkedUnlock_rests : parkedUnlock.RestSound where
  clutch := by decide
  fans := by decide
  climate := by decide
  intake := by decide
  empty := by decide
theorem witness_UnlockFreesAHeldLock :
    ((sent run 1 [7, 8]).CanTake (frame 1 [7, 8]) [] 1 ∧ (frame 1 [7, 8]).isRequest 7 = true) ∧
    (parkedUnlock.CanTake (frame 1 [7, 8]) [] 1 ∧ parkedUnlock.modes.mode = .parked ∧ parkedUnlock.RestSound ∧
      parkedUnlock.defined 1 = true ∧ parkedUnlock.store.live.presentTarget ((frame 1 [7, 8]).num 1) = some 8) :=
  ⟨⟨sent_canTake _ _ _ (by decide), by decide⟩, ⟨rfl, rfl, rfl, by decide⟩, rfl, parkedUnlock_rests, by decide, by decide⟩
theorem witness_SupplySetsTheHeldLevel :
    (sent run 1 [10, 4]).CanTake (frame 1 [10, 4]) [] 1 ∧ (frame 1 [10, 4]).isRequest 10 = true :=
  ⟨sent_canTake _ _ _ (by decide), by decide⟩
theorem witness_ZoneStatusCarriesThePage :
    (sent run 1 [8, 0, 0]).CanTake (frame 1 [8, 0, 0]) [] 1 ∧ (frame 1 [8, 0, 0]).isRequest 8 = true ∧
    (frame 1 [8, 0, 0]).num 2 ≠ 1 ∧ (frame 1 [8, 0, 1]).num 2 ≠ 0 :=
  ⟨sent_canTake _ _ _ (by decide), by decide, by decide, by decide⟩
theorem witness_PlantStatusReportsAndClearsOverrun :
    (sent run 1 [9]).CanTake (frame 1 [9]) [] 1 ∧ (frame 1 [9]).isRequest 9 = true :=
  ⟨sent_canTake _ _ _ (by decide), by decide⟩
theorem witness_LayoutReadAndWriteNameAnItem :
    ((sent run 15 [11, 2, 0]).CanTake (frame 15 [11, 2, 0]) [] 1 ∧ (frame 15 [11, 2, 0]).isRequest 11 = true) ∧
    ((sent run 15 [12, 2, 0, 0, 80]).CanTake (frame 15 [12, 2, 0, 0, 80]) [] 1 ∧
      (frame 15 [12, 2, 0, 0, 80]).isRequest 12 = true) :=
  ⟨⟨sent_canTake _ _ _ (by decide), by decide⟩, ⟨sent_canTake _ _ _ (by decide), by decide⟩⟩
theorem witness_LayoutItemsReadBackAsWritten :
    (Item.plain .bmax).inRange 80 = true ∧ (Item.plain .bmax).inRange 480 = true ∧ Item.thermistor 0 ≠ Item.plain .bmax ∧
    (Item.scaleLo 3).inRange (-50) = true := by decide
theorem witness_StoreAndRestartNeedServiceAndNoWrite :
    ((sent run 15 [13]).CanTake (frame 15 [13]) [] 1 ∧ (frame 15 [13]).isRequest 13 = true) ∧
    ((sent run 15 [14]).CanTake (frame 15 [14]) [] 1 ∧ (frame 15 [14]).isRequest 14 = true) :=
  ⟨⟨sent_canTake _ _ _ (by decide), by decide⟩, ⟨sent_canTake _ _ _ (by decide), by decide⟩⟩
theorem witness_AllocationOutsideRunSetsSupplyLevel : (inMode .parked).modes.mode ≠ .run := by decide
theorem witness_AllocationSetsFlowsAndDuty : run.modes.mode = .run ∧ run.store.live.zonePresent 2 = true ∧
    run.store.live.zonePresent 3 = false := ⟨rfl, by decide, by decide⟩
/-- s with a healthy channel. -/
def reading (s : State) (c : ChannelId) (v : Int) : State := s.setChannel c { condition := .valid, filtered := some v }
/-- Each clause about a zone has a state that meets it: a governing record, the synthetic demand and none; the zone's own
channel, the cab's mean of channels 1 and 2, and neither; the spread at 50 and at 49; the cold-engine limit at 299 and 300. -/
theorem witness_GrantsStayWithinTheAvailableFlow :
    ((holding run 0 comfort).modes.mode = .run ∧ (∃ t, exec .allocation (holding run 0 comfort) = .next t) ∧
      (holding run 0 comfort).store.live.zonePresent 1 = true) ∧
    (let s := holding run 0 comfort
     (s.list (zoneTarget 1)).head? = some 0 ∧ s.record 0 = some comfort ∧ s.list (zoneTarget 2) = [] ∧
     (s.plan 1).demand = .record 0 comfort ∧ (s.plan 2).demand = .none ∧ (s.plan 1).tZone = some 215) ∧
    (let s := holding run 39 { comfort with target := 8, station := 0, kind := .purge }
     (s.list 8).head? = some 39 ∧ (s.plan 1).demand = .synthetic ∧ (s.plan 0).demand = .none ∧ (s.plan 1).level = 5) ∧
    (reading run 1 230).healthy 1 = some 230 ∧
    (run.healthy 1 = none ∧ ([1, 2] : List ChannelId).Nodup ∧
      (∀ c, c ∈ ([1, 2] : List ChannelId) ↔ ∃ y : Zone, y ≠ 0 ∧ run.store.live.zonePresent y = true ∧
        zoneChannel run.store.live y = c) ∧ [1, 2].filterMap run.healthy = [] ∧
      [1, 2].filterMap (reading run 2 201).healthy = [201]) ∧
    ((holding run 0 { comfort with kind := .rehab }).plan 1).demand = .record 0 { comfort with kind := .rehab } ∧
    ((holding run 0 { comfort with target := 0, kind := .defrost }).plan 0).blend = some 1000 ∧
    (reading (reading run 8 100) 9 150).decks = some (100, 150) ∧ (reading (reading run 8 100) 9 149).decks = none ∧
    (let s := reading (reading (holding run 0 comfort) 1 200) 9 299
     (s.plan 1).heating = true ∧ (s.plan 1).used = 2 ∧ ((reading s 9 300).plan 1).used = 5) ∧
    ((reading (holding run 0 comfort) 1 230).plan 1).cooling = true ∧
    ((holding run 0 { comfort with level := some 0 }).plan 1).level = 2 := by
  refine ⟨⟨rfl, ⟨_, rfl⟩, by decide⟩, by decide, by decide, by decide, by decide, by decide, by decide, by decide, by decide,
    by decide, by decide, by decide⟩
/-- 4.10: requests that fit exactly, and two that are shared. -/
theorem witness_SharedClassGoesByRemainders :
    ([((1 : Zone), 80), (4, 63)].map (fun p => p.1)).Nodup ∧ ([((1 : Zone), 80), (4, 63)].map (fun p => p.2)).sum ≤ 143 ∧
    105 < ([((1 : Zone), 80), (4, 63)].map (fun p => p.2)).sum := by decide
theorem witness_SharedClassGoesByRemainders_classes :
    ([((1 : Zone), run.plan 1), (4, run.plan 4)].map (fun p => p.1)).Nodup := by decide
theorem witness_MonitorTimersMoveTheState :
    (let s := { judging run .suspect with air := { (judging run .suspect).air with dwellTimer := some 0 } }
     s.air.dwellTimer.isSome = true ∧ s.air.contamination = .suspect ∧ s.modes.mode = .run ∧ s.link.state = .online ∧
     s.link.tx.length + s.link.reserved ≤ 2) ∧
    (let s := { judging run .contaminated with air := { (judging run .contaminated).air with clearHoldTimer := some 0 } }
     s.air.clearHoldTimer.isSome = true ∧ s.air.contamination = .contaminated) ∧
    (let s := { run with air := { run.air with cabClearTimer := some 0 } }
     s.air.cabClearTimer.isSome = true) ∧
    run.air.dwellTimer = none ∧ run.air.clearHoldTimer = none ∧ run.air.cabClearTimer = none ∧
    (inMode .homing).modes.mode = .homing ∧ (inMode .parked).modes.mode = .parked := by decide
theorem run_homingOpen : run.homingOpen := fun h => by simp [run, inMode] at h
/-- RUN with an empty list; a governing SEAL, pressurizing at 200, 1000 and at an entry, with and without channel 14. -/
theorem witness_IntakeComputationSetsDoorAndFan :
    (inMode .homing).modes.mode ≠ .run ∧ run.modes.mode = .run ∧ (run.postSeal.list intakeTarget).Nodup ∧
    run.postSeal.list intakeTarget = sealSlot :: [] ∧
    (run.postSeal.record sealSlot).any (fun r => r.kind == .seal) = true ∧
    run.intake.pressurizing = false ∧ run.healthy 14 = none ∧
    (let s := { run.postSeal.setChannel 14 { condition := .valid, filtered := some 39 } with
        intake := { run.intake with pressurizing := true, steppedDuty := some 200 } }
     s.healthy 14 = some 39 ∧ s.intake.steppedDuty = some 200 ∧ s.intake.pressurizing = true) := by decide
theorem witness_DoorBoostAndBlowerPauseRun :
    run.pins.doorsOpen[(5 : Fin 6).val] = false ∧
    ({ run.pins with doorsOpen := run.pins.doorsOpen.set 5 true } : Pins).doorsOpen[(5 : Fin 6).val] = true ∧
    (let s := { run with intake := { run.intake with boostTimer := some 0, pressurizing := true, steppedDuty := some 650 } }
     s.intake.boostTimer.isSome = true ∧ (∀ x : Fin 6, ¬ s.pins.doorsOpen[x.val] = true) ∧ s.intake.steppedDuty = some 650) ∧
    (let s := { run with intake := { run.intake with boostTimer := some 0 } }
     s.intake.boostTimer.isSome = true ∧ s.intake.pressurizing = false) ∧
    run.intake.boostTimer = none := by decide
/-- Channel 0 by the thermistor table at raw 40 (t0 1200, t1 800) and channel 15 by its scaling. -/
theorem witness_ConversionsJudgeScaleAndFilter :
    run.scanner.scan = [] ∧ (scanning run 0).scanner.scan = 0 :: [] ∧
    (run.store.live.thermistor[(40 : BitVec 12).toNat / 512]? = some 1200 ∧
      run.store.live.thermistor[(40 : BitVec 12).toNat / 512 + 1]? = some 800) ∧
    run.store.live.thermistor[(4095 : BitVec 12).toNat / 512 + 1]? = some (-400) ∧
    (10 < (15 : ChannelId).val ∧ run.store.live.scaling[(15 : ChannelId).val - 11]? = some ⟨0, 200⟩) := by decide
/-- Channels 0, 8, 10, 14 and 15. -/
theorem witness_ArrivalsActOnTheirBlocks :
    (∀ c ∈ [(0 : ChannelId), 8, 10, 14, 15], (scanning run c).scanner.scan = c :: [] ∧ (c.val < 11 ∨ 13 < c.val)) ∧
    ∀ c, (scanning run c).homingOpen := ⟨by decide, fun _ h => by simp [scanning, run, inMode] at h⟩
/-- Channels 11, 12 and 13, before and after the start of evaluation. -/
theorem witness_GasArrivalsMoveTheMonitor :
    (∀ c ∈ [(11 : ChannelId), 12, 13], (scanning run c).scanner.scan = c :: [] ∧ (c = 11 ∨ c = 12 ∨ c = 13)) ∧
    run.air.evaluating = false ∧ (judging run .clear).air.evaluating = true := by decide
/-- An arrival of each intake channel that moves the state, and one of channel 13 that raises CAB_HIGH. -/
theorem witness_GasArrivalsMoveTheMonitor_moves :
    (∀ c ∈ [(11 : ChannelId), 12], (after (.conversionComplete 4055) (scanning (judging run .clear) c)).map
      (fun t => t.air.contamination) = some .contaminated) ∧
    (judging run .clear).air.contamination = .clear ∧
    (after (.conversionComplete 4055) (scanning run 13)).map (fun t => t.air.cabHigh) = some true ∧
    run.air.cabHigh = false := by decide
theorem witness_TargetsAreTakenByState :
    (run.drive.act 0).state = .unhomed ∧ ((homed run).drive.act 9).state = .ready ∧ (9 : ActuatorId) ∉ (homed run).drive.queue ∧
    505 ≤ ((homed run).drive.act 9).reported + 5 ∧ ((homed run).drive.act 9).reported + 5 < 506 ∧
    494 + 5 < ((homed run).drive.act 9).reported ∧
    ((homed run).drive.act 9).travel = some 1000 ∧ ((homed run).drive.act 9).step = some 500 ∧
    ({ (homed run).drive with queue := [9] } : ActuatorDrive).queue = 9 :: [] ∧ (homed run).drive.queue = [] := by decide
/-- An absent actuator; the closing phase before and at 5000 steps; the opening phase at both limits; a move before and at
its target; a READY actuator. -/
theorem witness_ActuatorEventsDriveHomingAndMoves :
    run.actPresent 4 = false ∧ run.actPresent 3 = true ∧
    (let x : Actuator := { state := .homing, phase := .closing, count := 5000, target := 0 }
     (withAct run 3 x).drive.act 3 = x ∧ x.state = .homing ∧ x.phase = .closing ∧ x.count = 5000) ∧
    (let x : Actuator := { state := .rehoming, phase := .opening, count := 400, target := 1000 }
     (withAct run 3 x).drive.act 3 = x ∧ x.phase = .opening ∧ ¬ (x.count < 400 ∨ 4000 < x.count)) ∧
    (let x : Actuator := { state := .moving, travel := some 1200, step := some 886, target := 738 }
     (withAct run 3 x).drive.act 3 = x ∧ 886 = (2 * (1200 * x.target) + 1000) / 2000) ∧
    (let x : Actuator := { state := .moving, travel := some 1200, step := some 885, target := 738 }
     (withAct run 3 x).drive.act 3 = x ∧ 885 ≠ (2 * (1200 * x.target) + 1000) / 2000) ∧
    ((homed run).drive.act 3).state = .ready := by decide
theorem witness_ActuatorEventsDriveHomingAndMoves_open : (homed run).homingOpen := fun h => by simp [homed, run, inMode] at h
/-- The debounce runs in each mode, with the ignition off and on. -/
theorem witness_IgnitionMovesTheMode :
    (let s := { run with modes := { mode := .run, ignition := true, debounce := some 0 }, pins := Pins.atReset }
     s.homingOpen ∧ s.modes.debounce.isSome = true ∧ s.modes.ignition = true ∧ s.pins.ignition = false) ∧
    (let s := { run with modes := { mode := .parked, ignition := false, debounce := some 0 } }
     s.homingOpen ∧ s.modes.debounce.isSome = true ∧ s.modes.ignition = false ∧ ¬ s.pins.ignition = false ∧
     s.modes.mode = .parked) ∧ run.modes.debounce = none :=
  ⟨⟨fun h => by simp at h, rfl, rfl, rfl⟩, ⟨fun h => by simp at h, rfl, rfl, by decide, rfl⟩, rfl⟩
/-- Every present actuator has settled in HOMING, with the ignition on and off; one has not. -/
theorem witness_IgnitionMovesTheMode_homed :
    (∀ isOn, let s := { homed (inMode .homing) with modes := { mode := .homing, ignition := isOn, debounce := none } }
      s.modes.mode = .homing ∧ s.modes.ignition = isOn ∧
      ∀ a, s.actPresent a = true → (s.drive.act a).state = .ready ∨ (s.drive.act a).state = .faulted) ∧
    ¬ (∀ a, (inMode .homing).actPresent a = true →
      ((inMode .homing).drive.act a).state = .ready ∨ ((inMode .homing).drive.act a).state = .faulted) := by decide
/-- R184: the stall that ends the last homing takes HOMING to RUN, with the ignition on. -/
theorem test_homing_completes : (after (.homingStall 3)
    (withAct (homed (inMode .homing)) 3 { state := .homing, phase := .opening, count := 1200, target := 1000 })).map
    (fun t => (t.modes.mode, (t.drive.act 3).travel)) = some (.run, some 1200) := by decide

/-! ### States that meet the invariants, and step -/

/-- A running cab with one served COMFORT record, clean air, and the actuators homed. -/
def sound : State := homed (holding { judging run .clear with climate := { run.climate with effectiveSupply := 0 } } 0 comfort)
theorem sound_record (n : Slot) : sound.record n = if n = 0 then some comfort else none := by revert n; decide
theorem sound_list (t : Target) : sound.list t = if t = 1 then [0] else [] := by revert t; decide
theorem sound_steps : ∃ t, step sound = .next t := ⟨_, rfl⟩
theorem witness_StepsKeepTheTableSound : sound.TableSound ∧ ∃ t, step sound = .next t := by
  refine ⟨?_, sound_steps⟩
  constructor
  · intro n t
    rw [sound_list, sound_record]
    by_cases h : t = 1
    · by_cases k : n = 0 <;> simp [h, k, comfort]
    · by_cases k : n = 0 <;> simp [h, k, comfort]; exact fun e => h e.symm
  · intro t; rw [sound_list]; split <;> simp
  · intro t; rw [sound_list]; split <;> simp
  · intro n m r q hn hm; rw [sound_record] at hn hm; split at hn <;> split at hm <;> simp_all
  · intro n r hn; rw [sound_record] at hn; split at hn <;> simp at hn; subst hn; decide
  · intro n r hn; rw [sound_record] at hn; split at hn <;> simp at hn; subst hn
    simp [Record.shaped, comfort, intakeTarget]
  · intro n r hn; rw [sound_record] at hn; split at hn <;> simp at hn
    rename_i h; subst hn h; decide
  · intro r hn; rw [sound_record, if_neg (by decide)] at hn; exact absurd hn (by simp)
  · intro r hn; rw [sound_record, if_neg (by decide)] at hn; exact absurd hn (by simp)
  · intro n r hn; rw [sound_record] at hn; split at hn <;> simp at hn; subst hn; decide
  · decide
/-- RUN with a sound table and a governing record on a present zone. -/
theorem witness_AllocationSetsFlowsAndDuty_records : sound.modes.mode = .run ∧ sound.TableSound ∧
    sound.store.live.zonePresent 1 = true ∧ sound.list (zoneTarget 1) = 0 :: [] ∧
    (∀ z, sound.store.live.zonePresent z = true → (1 : Slot) ∉ sound.list (zoneTarget z)) :=
  ⟨rfl, witness_StepsKeepTheTableSound.1, by decide, by decide, by intro z _; rw [sound_list]; split <;> simp⟩
theorem witness_StepsKeepTheClutchSound : sound.ClutchSound ∧ ∃ t, step sound = .next t :=
  ⟨⟨by decide, by decide, by decide, by decide, by decide, by decide, by decide⟩, sound_steps⟩
theorem witness_StepsKeepTheLinkSound : sound.LinkSound ∧ ∃ t, step sound = .next t :=
  ⟨⟨by decide, by decide, by decide, by decide, by decide, by decide, by decide⟩, sound_steps⟩
theorem witness_StepsKeepTheDriveSound : sound.DriveSound ∧ ∃ t, step sound = .next t := by
  refine ⟨⟨by decide, by decide, by decide, by decide, by decide, by decide, ?_⟩, sound_steps⟩
  intro a h
  have k : sound.actPresent a = true := by revert h; revert a; decide
  exact ⟨1000, parkPosition a, by revert k; revert a; decide, by revert k; revert a; decide, by decide, by decide⟩
theorem witness_StepsKeepTheMonitorSound : sound.AirSound ∧ ∃ t, step sound = .next t :=
  ⟨⟨by decide, by decide, by decide, by decide, by decide, by decide, by decide, by decide⟩, sound_steps⟩
theorem witness_StepsKeepAContaminatedCabSealed : sound.SealSound ∧ ∃ t, step sound = .next t := by
  refine ⟨⟨by decide, by decide, ?_, by decide⟩, sound_steps⟩
  intro r hn; rw [sound_record, if_neg (by decide)] at hn; exact absurd hn (by simp)
theorem witness_StepsKeepThePlantAtRest : sound.RestSound ∧ ∃ t, step sound = .next t :=
  ⟨⟨by decide, by decide, by decide, by decide, by decide⟩, sound_steps⟩

end Sys2Proof.Tests
end

section
/-! SUPPORT. The taking of a head frame of one answer frame, what the checks of a request read of the state in which it is
judged (R46, R166), and the statements about LOCK, UNLOCK and SUPPLY (R51, R53, R60). -/

namespace Sys2Proof.Machine

/-! ## What a request's checks read once its frame is counted -/

section
variable (s : State) (f : RxFrame) (rest : List RxFrame) (n : Nat)

@[simp] theorem State.beginTake_defined (st : Station) : (s.beginTake f rest n).defined st = s.defined st := by
  simp [State.defined]

@[simp] theorem State.beginTake_config (st : Station) : (s.beginTake f rest n).config st = s.config st := by
  simp [State.config]

/-- Counting a frame (R47) writes the sender's entry of the register and no lock. -/
@[simp] theorem State.beginTake_lockOf (t : Target) : (s.beginTake f rest n).lockOf t = s.lockOf t := by
  simp only [State.beginTake]
  split <;> rfl

@[simp] theorem State.beginTake_gate (g : RxFrame) : (s.beginTake f rest n).gate g = s.gate g := by
  simp [State.gate]

end

/-! ## The checks that most requests share -/

/-- The mode and definition checks (R46): all that they can answer, and when. -/
theorem State.gate_cases (s : State) (f : RxFrame) :
    (s.modes.mode = .start ∧ s.gate f = some .notNow) ∨
    (s.modes.mode ≠ .start ∧ s.defined f.station = false ∧ s.gate f = some .notPermitted) ∨
    (s.modes.mode ≠ .start ∧ s.defined f.station = true ∧ s.gate f = none) := by
  by_cases start : s.modes.mode = .start
  · exact .inl ⟨start, if_pos start⟩
  cases defined : s.defined f.station with
  | false => exact .inr (.inl ⟨start, rfl, by simp [State.gate, start, defined]⟩)
  | true => exact .inr (.inr ⟨start, rfl, by simp [State.gate, start, defined]⟩)

/-! ## Taking a frame, and placing an answer of one frame -/

/-- The frame that stands at the head, and that the row accepts, is judged in the state in which it is counted, and its
answer placed in the state that serving it leaves (R166). -/
theorem State.CanTake.take_eq {s : State} {f : RxFrame} {rest : List RxFrame} (h : s.CanTake f rest 1)
    {accepts : RxFrame → Bool} (a : accepts f = true) (serve : State → RxFrame → State × Answer) :
    s.take accepts oneFrame serve =
      (serve (s.beginTake f rest 1) f).1.placeAnswer f (serve (s.beginTake f rest 1) f).2 :=
  State.take_head h.head a ((s.canTake_iff 1).mpr ⟨h.online, h.noRestart, h.room⟩)

section
variable (s : State) (f : RxFrame)

theorem State.placeAnswer_plain (st : Status) : s.placeAnswer f (.plain st) = s.refuse f st := rfl

theorem State.placeAnswer_one (st : Status) (hi : Nat) (bytes : Vector Byte 6) :
    s.placeAnswer f (.one st hi bytes) = s.reply f st hi bytes := rfl

theorem State.placeAnswer_lockAnswer (t : Target) :
    s.placeAnswer f (lockAnswer t) = s.reply f .ok 0 #v[BitVec.ofNat 8 t.val, 0, 0, 0, 0, 0] := rfl

end

/-! ## LOCK -/

/-- A lock taken or freed changes the locks alone (R51, R53). -/
theorem State.setLock_eq (s : State) (t : Target) (h : Option Station) :
    s.setLock t h = { s with register := { s.register with locks := (s.setLock t h).register.locks } } := rfl

/-- The lock given again to its holder: nothing changes (R51). -/
theorem State.setLock_holder {s : State} {t : Target} {h : Option Station} (holder : s.lockOf t = h) :
    s.setLock t h = s := by
  simp [← holder, State.setLock, State.lockOf]

/-- Settles O30, by the checks of R51 in their order and then by the lock's holder. -/
theorem lockIsTakenOrRefused : Obligations.LockIsTakenOrRefused := by
  unfold Obligations.LockIsTakenOrRefused
  intro s f rest hc hf
  refine ⟨congrArg Host.Outcome.next ?_, fun t h => ⟨s.setLock_eq t h, fun x => s.lockOf_setLock t x h⟩⟩
  rw [hc.take_eq hf, State.serveLock]
  simp only [State.beginTake_frame, State.beginTake_gate, State.beginTake_config, State.beginTake_lockOf]
  by_cases parked : s.modes.mode = .parked
  · simp [parked, State.placeAnswer_plain]
  rcases s.gate_cases f with ⟨start, gate⟩ | ⟨start, undefined, gate⟩ | ⟨start, defined, gate⟩
  · simp [start, gate, State.placeAnswer_plain]
  · simp [start, parked, undefined, gate, State.placeAnswer_plain]
  simp only [start, parked, defined, gate]
  cases s.store.live.presentTarget (f.num 1) with
  | none => simp [State.placeAnswer_plain]
  | some t =>
    by_cases rights : (s.config f.station).lockRight = 0 ∨ (s.config f.station).targetRights.testBit t.val = false
    · simp [rights, State.placeAnswer_plain]
    cases holder : s.lockOf t with
    | none => simp [rights, holder, State.placeAnswer_lockAnswer]
    | some h =>
      by_cases own : h = f.station
      · have kept : (s.beginTake f rest 1).setLock t (some f.station) = s.beginTake f rest 1 :=
          State.setLock_holder (by simp [holder, own])
        simp [rights, holder, own, kept, State.placeAnswer_lockAnswer]
      · simp [rights, holder, own, State.placeAnswer_plain]

/-! ## UNLOCK -/

/-- In PARKED no lock is held, with the plant at rest (R54). -/
theorem State.RestSound.lockOf_parked {s : State} (h : s.RestSound) (parked : s.modes.mode = .parked) (t : Target) :
    s.lockOf t = none :=
  (h.empty (.inr parked)).2 t

/-- UNLOCK of a free lock, once its checks are passed (R53). -/
theorem State.serveUnlock_free {s : State} {f : RxFrame} {t : Target} (gate : s.gate f = none)
    (target : s.store.live.presentTarget (f.num 1) = some t) (free : s.lockOf t = none) :
    s.serveUnlock f = (s, .plain .notFound) := by
  simp [State.serveUnlock, gate, target, free]

/-- Settles O31, by the checks of R53 in their order and then by the lock's holder. -/
theorem unlockFreesAHeldLock : Obligations.UnlockFreesAHeldLock := by
  unfold Obligations.UnlockFreesAHeldLock
  intro s f rest hc hf
  refine ⟨congrArg Host.Outcome.next ?_, fun t parked atRest defined target => congrArg Host.Outcome.next ?_⟩
  · rw [hc.take_eq hf, State.serveUnlock]
    simp only [State.beginTake_frame, State.beginTake_gate, State.beginTake_config, State.beginTake_lockOf]
    rcases s.gate_cases f with ⟨start, gate⟩ | ⟨start, undefined, gate⟩ | ⟨start, defined, gate⟩
    · simp [start, gate, State.placeAnswer_plain]
    · simp [start, undefined, gate, State.placeAnswer_plain]
    simp only [start, defined, gate]
    cases s.store.live.presentTarget (f.num 1) with
    | none => simp [State.placeAnswer_plain]
    | some t =>
      cases holder : s.lockOf t with
      | none => simp [holder, State.placeAnswer_plain]
      | some h =>
        by_cases frees : h = f.station ∨ (s.config f.station).serviceRight ≠ 0
        · simp [holder, frees, State.placeAnswer_lockAnswer]
        · simp [holder, frees, State.placeAnswer_plain]
  · have gate : s.gate f = none := by simp [State.gate, parked, defined]
    have free : s.lockOf t = none := atRest.lockOf_parked parked t
    rw [hc.take_eq hf, State.serveUnlock_free (t := t) (by simp [gate]) (by simp [target]) (by simp [free]),
      State.placeAnswer_plain]

/-! ## SUPPLY -/

/-- The level carried, lowered to 3 (R60). -/
theorem min_three_eq_ite (n : Nat) : min n 3 = if 3 < n then 3 else n := by
  split <;> omega

/-- Settles O32, by the checks of R60 in their order. -/
theorem supplySetsTheHeldLevel : Obligations.SupplySetsTheHeldLevel := by
  unfold Obligations.SupplySetsTheHeldLevel
  intro s f rest hc hf
  refine congrArg Host.Outcome.next ?_
  rw [hc.take_eq hf, State.serveSupply]
  simp only [State.beginTake_gate, State.beginTake_config, min_three_eq_ite]
  rcases s.gate_cases f with ⟨start, gate⟩ | ⟨start, undefined, gate⟩ | ⟨start, defined, gate⟩
  · simp [start, gate, State.placeAnswer_plain]
  · simp [start, undefined, gate, State.placeAnswer_plain]
  by_cases right : (s.config f.station).supplyRight = 0
  · simp [start, gate, right, State.placeAnswer_plain]
  · simp [start, defined, gate, right, State.placeAnswer_one]

end Sys2Proof.Machine
end

section
/-! SUPPORT. All that a step and a command can do, said once: the request rows by their parts, the commands that can reset
the device, and what serving a request leaves as it was. -/

namespace Sys2Proof.Machine

/-! ## A step -/

/-- A step lets a millisecond pass on an empty queue, or runs the command at its front (log 4). -/
theorem step_cases {s t : State} (h : step s = .next t) :
    (s.pending = [] ∧ t = s.tick) ∨ ∃ c rest, s.pending = c :: rest ∧ exec c (s.withPending rest) = .next t := by
  unfold step at h
  split at h
  · exact .inl ⟨‹_›, (Host.Outcome.next.inj h).symm⟩
  · exact .inr ⟨_, _, ‹_›, h⟩

/-- What a millisecond, a change of the queue and every command keep, every step keeps. -/
theorem step_keeps {P : State → Prop} (tick : ∀ s, P s → P s.tick) (queue : ∀ s q, P s → P (s.withPending q))
    (run : ∀ c s t, P s → exec c s = .next t → P t) (s t : State) (h : P s) (e : step s = .next t) : P t := by
  rcases step_cases e with ⟨_, rfl⟩ | ⟨c, rest, _, e⟩
  · exact tick s h
  · exact run c _ t (queue s rest h) e

/-- A command answers one next state. -/
theorem exec_result {c : Instr} {s t u : State} (e : exec c s = .next t) (k : exec c s = .next u) : t = u :=
  Host.Outcome.next.inj (e.symm.trans k)

/-! ## The request rows -/

/-- A request row by its parts: the head frames it accepts, the room its answer needs, and the serving (R166). -/
structure RequestRow where
  accepts : RxFrame → Bool
  room    : State → RxFrame → Nat
  serve   : State → RxFrame → State × Answer

/-- The parts of a request row; the other commands have none. -/
def requestRow : Instr → Option RequestRow
  | .post => some ⟨fun f => f.isRequest 1, fun _ => oneFrame, State.servePost⟩
  | .withdrawByKey => some ⟨fun f => f.isRequest 2 && f.formIs 0, fun _ => oneFrame, State.serveWithdrawKey⟩
  | .withdrawBySlot => some ⟨fun f => f.isRequest 2 && f.formIs 1, fun _ => oneFrame, State.serveWithdrawSlot⟩
  | .lookupByKey => some ⟨fun f => f.isRequest 3 && f.formIs 0, fun _ => oneFrame, State.serveLookupKey⟩
  | .lookupBySlot => some ⟨fun f => f.isRequest 3 && f.formIs 1, fun _ => oneFrame, State.serveLookupSlot⟩
  | .list => some ⟨fun f => f.isRequest 4, State.listRoom, State.serveList⟩
  | .refresh => some ⟨fun f => f.isRequest 5, fun _ => oneFrame, State.serveRefresh⟩
  | .lock => some ⟨fun f => f.isRequest 6, fun _ => oneFrame, State.serveLock⟩
  | .unlock => some ⟨fun f => f.isRequest 7, fun _ => oneFrame, State.serveUnlock⟩
  | .zoneStatusPage0 => some ⟨fun f => f.isRequest 8 && f.pageIs 0, fun _ => oneFrame, State.serveZonePage0⟩
  | .zoneStatusPage1 => some ⟨fun f => f.isRequest 8 && f.pageIs 1, fun _ => oneFrame, State.serveZonePage1⟩
  | .plantStatus => some ⟨fun f => f.isRequest 9, fun _ => oneFrame, State.servePlant⟩
  | .supply => some ⟨fun f => f.isRequest 10, fun _ => oneFrame, State.serveSupply⟩
  | .layoutRead => some ⟨fun f => f.isRequest 11, fun _ => oneFrame, State.serveLayoutRead⟩
  | .layoutWrite => some ⟨fun f => f.isRequest 12, fun _ => oneFrame, State.serveLayoutWrite⟩
  | .layoutStore => some ⟨fun f => f.isRequest 13, fun _ => oneFrame, State.serveLayoutStore⟩
  | .restart => some ⟨fun f => f.isRequest 14, fun _ => oneFrame, State.serveRestart⟩
  | .badRequest => some ⟨RxFrame.isBad, fun _ => oneFrame, State.serveBad⟩
  | _ => none

/-- A request row is the taking of the head frame by its parts (R166). -/
theorem exec_requestRow {c : Instr} {row : RequestRow} (h : requestRow c = some row) (s : State) :
    exec c s = .next (s.take row.accepts (row.room s) row.serve) := by
  cases c <;> cases h <;> rfl

/-- The commands that have the parts of a request row are the request rows. -/
theorem mem_requestRows_iff (c : Instr) : c ∈ requestRows ↔ ∃ row, requestRow c = some row := by
  cases c <;> simp [requestRows, requestRow]

/-- All that a request row can do: nothing, or the head frame counted, its request served and its answer placed (R166). -/
theorem exec_request_cases {c : Instr} {row : RequestRow} (h : requestRow c = some row) {s t : State}
    (e : exec c s = .next t) :
    t = s ∨ ∃ f rest, s.link.rx = f :: rest ∧ row.accepts f = true ∧ s.canTake (row.room s f) = true ∧
      t = (row.serve (s.beginTake f rest (row.room s f)) f).1.placeAnswer f
        (row.serve (s.beginTake f rest (row.room s f)) f).2 := by
  rw [exec_requestRow h] at e
  cases e
  exact s.take_cases row.accepts (row.room s) row.serve

/-- The blocks that no request touches: all but the table, the register, the link, and of the store the pending image and
the result. -/
structure State.PlantKept (t s : State) : Prop where
  climate : t.climate = s.climate
  coolant : t.coolant = s.coolant
  air     : t.air = s.air
  intake  : t.intake = s.intake
  scanner : t.scanner = s.scanner
  drive   : t.drive = s.drive
  fans    : t.fans = s.fans
  live    : t.store.live = s.store.live
  modes   : t.modes = s.modes
  pins    : t.pins = s.pins
  pending : t.pending = s.pending

theorem State.PlantKept.refl (s : State) : s.PlantKept s := ⟨rfl, rfl, rfl, rfl, rfl, rfl, rfl, rfl, rfl, rfl, rfl⟩

theorem State.PlantKept.trans {s t u : State} (h : u.PlantKept t) (k : t.PlantKept s) : u.PlantKept s :=
  ⟨h.climate.trans k.climate, h.coolant.trans k.coolant, h.air.trans k.air, h.intake.trans k.intake,
   h.scanner.trans k.scanner, h.drive.trans k.drive, h.fans.trans k.fans, h.live.trans k.live, h.modes.trans k.modes,
   h.pins.trans k.pins, h.pending.trans k.pending⟩

@[simp] theorem State.serveLayoutWrite_live (s : State) (f : RxFrame) :
    (s.serveLayoutWrite f).1.store.live = s.store.live := by
  simp only [State.serveLayoutWrite]; (repeat' split) <;> rfl

@[simp] theorem State.serveLayoutStore_live (s : State) (f : RxFrame) :
    (s.serveLayoutStore f).1.store.live = s.store.live := by
  simp only [State.serveLayoutStore]; (repeat' split) <;> rfl

/-- Serving a request leaves the plant alone. -/
theorem requestRow_serve_kept {c : Instr} {row : RequestRow} (h : requestRow c = some row) (s : State) (f : RxFrame) :
    (row.serve s f).1.PlantKept s := by
  cases c <;> cases h <;> constructor <;> simp

theorem State.beginTake_kept (s : State) (f : RxFrame) (rest : List RxFrame) (n : Nat) :
    (s.beginTake f rest n).PlantKept s := by constructor <;> simp

theorem State.placeAnswer_kept (s : State) (f : RxFrame) (a : Answer) : (s.placeAnswer f a).PlantKept s := by
  constructor <;> simp

/-- A request row leaves the plant alone. -/
theorem exec_request_kept {c : Instr} {row : RequestRow} (h : requestRow c = some row) {s t : State}
    (e : exec c s = .next t) : t.PlantKept s := by
  rcases exec_request_cases h e with rfl | ⟨f, rest, _, _, _, rfl⟩
  · exact .refl _
  · exact (State.placeAnswer_kept _ _ _).trans ((requestRow_serve_kept h _ _).trans (s.beginTake_kept f rest _))

/-! ## The commands that can reset the device -/

/-- The device after a reset and its start-up (R178, R179, R182). -/
def State.reboot (s : State) (good : Bool) : State := s.clearVolatile.evaluateAtReset.startUp good

theorem exec_powerOnReset (good : Bool) (s : State) : exec (.powerOnReset good) s = .next (s.reboot good) := rfl

/-- The end of a verified write is a reset from the image written (R181, R182). -/
theorem State.writeEnd_verified (s : State) : s.writeEnd true = State.reboot { s with store := { s.store with
    nv := .written s.store.image s.store.image.crc, result := .none } } true := if_pos rfl

/-- All that a command that can reset the device can do (R169, R170, R181, R182). -/
theorem exec_mayReset_cases {c : Instr} (h : mayReset c = true) {s t : State} (e : exec c s = .next t) :
    (∃ u good, u.pins = s.pins ∧ u.pending = s.pending ∧ t = State.reboot u good) ∨
    t = s ∨
    (∃ f rest, s.link.state = .online ∧ s.link.tx = f :: rest ∧
      ¬ (s.link.restartAwaited = true ∧ f.isRestartAnswer = true) ∧
      t = { s with link := { s.link with tx := rest } }) ∨
    (s.link.state = .online ∧ ¬ (s.link.restartAwaited = true ∧ s.link.tx.any TxFrame.isRestartAnswer = true) ∧
      t = s.goOffline) ∨
    t = { s with store := { s.store with nv := .unmatched s.store.image, result := .failed } } := by
  cases c with
  | powerOnReset good =>
    have e : t = s.reboot good := (Host.Outcome.next.inj e).symm
    exact .inl ⟨s, good, rfl, rfl, e⟩
  | storeWriteEnd verified =>
    have e : t = if s.store.result = .writing then s.writeEnd verified else s := (Host.Outcome.next.inj e).symm
    split at e
    · cases verified
      · exact .inr (.inr (.inr (.inr e)))
      · exact .inl ⟨{ s with store := { s.store with
            nv := .written s.store.image s.store.image.crc, result := .none } }, true, rfl, rfl,
          e.trans s.writeEnd_verified⟩
    · exact .inr (.inl e)
  | transmissionComplete =>
    have e : t = s.transmitted := (Host.Outcome.next.inj e).symm
    unfold State.transmitted at e
    split at e
    · rename_i f rest online queued
      simp only at e
      split at e
      · have e : t = State.reboot { s with link := { s.link with tx := rest } } true := e
        exact .inl ⟨{ s with link := { s.link with tx := rest } }, true, rfl, rfl, e⟩
      · exact .inr (.inr (.inl ⟨f, rest, online, queued, ‹_›, e⟩))
    · exact .inr (.inl e)
  | busOff =>
    have e : execBusOff s = .next t := e
    unfold execBusOff at e
    split at e
    · exact .inr (.inl (Host.Outcome.next.inj e).symm)
    · rename_i online
      split at e
      · have e : t = s.goOffline.reboot true := (Host.Outcome.next.inj e).symm
        exact .inl ⟨s.goOffline, true, by simp, by simp, e⟩
      · refine .inr (.inr (.inr (.inl ⟨?_, ‹_›, (Host.Outcome.next.inj e).symm⟩)))
        cases k : s.link.state
        · rfl
        · exact absurd k online
  | _ => cases h

/-! ## The commands that act on a condition -/

section
variable {s t : State}

theorem exec_frameReceived_cases {f : CanFrame} (e : exec (.frameReceived f) s = .next t) :
    f.data.length ≤ 8 ∧ t = s.receive f := by
  have e : execFrameReceived f s = .next t := e
  unfold execFrameReceived at e
  split at e <;> cases e
  exact ⟨by omega, rfl⟩

theorem exec_busOffRecovery_cases (e : exec .busOffRecovery s = .next t) :
    t = s ∨ (s.link.busOff = true ∧
      t = { s.mapEntries (fun st e => { e with lapse := s.resumeLapse st e.lapse }) with
        link := { s.link with state := .online, busOff := false } }) := by
  have e : execBusOffRecovery s = .next t := e
  unfold execBusOffRecovery at e
  split at e
  · exact .inr ⟨‹_›, (Host.Outcome.next.inj e).symm⟩
  · exact .inl (Host.Outcome.next.inj e).symm

theorem exec_conversionComplete_cases {raw : BitVec 12} (e : exec (.conversionComplete raw) s = .next t) :
    t = s ∨ ∃ c rest, s.scanner.scan = c :: rest ∧
      t = (({ s with scanner := { s.scanner with scan := rest } } : State).convert c raw).homingCheck := by
  have e : execConversionComplete raw s = .next t := e
  unfold execConversionComplete at e
  split at e
  · exact .inl (Host.Outcome.next.inj e).symm
  · exact .inr ⟨_, _, ‹_›, (Host.Outcome.next.inj e).symm⟩

theorem exec_doorSwitchChange_cases {door : Fin 6} {isOpen : Bool} (e : exec (.doorSwitchChange door isOpen) s = .next t) :
    t = s ∨ (s.pins.doorsOpen[door.val] ≠ isOpen ∧ t = s.doorChange door isOpen) := by
  have e : execDoorSwitchChange door isOpen s = .next t := e
  unfold execDoorSwitchChange at e
  split at e
  · exact .inl (Host.Outcome.next.inj e).symm
  · exact .inr ⟨‹_›, (Host.Outcome.next.inj e).symm⟩

theorem exec_boostTimerExpiry_cases (e : exec .boostTimerExpiry s = .next t) :
    t = s ∨ (s.intake.boostTimer.isSome = true ∧
      t = ({ s with intake := { s.intake with boostTimer := none } } : State).boostHand) := by
  have e : execBoostTimerExpiry s = .next t := e
  unfold execBoostTimerExpiry at e
  split at e
  · exact .inl (Host.Outcome.next.inj e).symm
  · exact .inr ⟨by simp [*], (Host.Outcome.next.inj e).symm⟩

theorem exec_highPressureSwitchChange_cases {isOpen : Bool} (e : exec (.highPressureSwitchChange isOpen) s = .next t) :
    t = s ∨ (s.pins.pressureOpen ≠ isOpen ∧ t = { s with
      pins := { s.pins with pressureOpen := isOpen }
      coolant := if isOpen then s.coolant.pressureOpens else s.coolant.pressureCloses }) := by
  have e : execHighPressureSwitchChange isOpen s = .next t := e
  unfold execHighPressureSwitchChange at e
  split at e
  · exact .inl (Host.Outcome.next.inj e).symm
  · exact .inr ⟨‹_›, (Host.Outcome.next.inj e).symm⟩

theorem exec_pauseTimerExpiry_cases (e : exec .pauseTimerExpiry s = .next t) :
    t = s ∨ t = { s with fans := { s.fans with
      pauseTimer := if s.pins.overCurrent then some Config.pauseTime else none } } := by
  have e : execPauseTimerExpiry s = .next t := e
  unfold execPauseTimerExpiry at e
  split at e
  · exact .inl (Host.Outcome.next.inj e).symm
  · exact .inr (Host.Outcome.next.inj e).symm

theorem exec_ignitionInputChange_cases {isOn : Bool} (e : exec (.ignitionInputChange isOn) s = .next t) :
    t = s ∨ (s.pins.ignition ≠ isOn ∧ t = { s with
      pins := { s.pins with ignition := isOn }
      modes := { s.modes with debounce := some Config.debounceTime } }) := by
  have e : execIgnitionInputChange isOn s = .next t := e
  unfold execIgnitionInputChange at e
  split at e
  · exact .inl (Host.Outcome.next.inj e).symm
  · exact .inr ⟨‹_›, (Host.Outcome.next.inj e).symm⟩

/-- The events of an actuator: MOVE_COMPLETE, the three of a homing, and STALL (R152, R155, R156). -/
def actuatorEvent (live : Layout) : Instr → Option (ActuatorId × (ActuatorDrive → ActuatorDrive))
  | .moveComplete a => some (a, fun d => d.moveComplete a)
  | .homingStall a => some (a, fun d => d.homingStall a live.travelLow live.travelHigh)
  | .homingNoStop a => some (a, fun d => d.noStop a)
  | .homingTravelOverrun a => some (a, fun d => d.travelOverrun a live.travelHigh)
  | .stall a => some (a, fun d => d.stall a)
  | _ => none

/-- An event of an actuator changes the drive, where the actuator is present, and can complete homing (R149, R184). -/
theorem exec_actuatorEvent_cases {c : Instr} {a : ActuatorId} {f : ActuatorDrive → ActuatorDrive}
    (h : actuatorEvent s.store.live c = some (a, f)) (e : exec c s = .next t) :
    t = s ∨ (s.actPresent a = true ∧ t = ({ s with drive := f s.drive } : State).homingCheck) := by
  have e : t = s.actEvent a f := by cases c <;> cases h <;> exact (Host.Outcome.next.inj e).symm
  unfold State.actEvent at e
  split at e
  · exact .inr ⟨‹_›, e⟩
  · exact .inl e

end

/-! ## Every effect of a command -/

/-- All that a command can make of a state: the inversion of `exec`, one constructor per effect. -/
inductive Effect (s : State) : State → Prop
  | none : Effect s s
  | request {c : Instr} {row : RequestRow} {t : State} (h : requestRow c = some row) (e : exec c s = .next t) : Effect s t
  | reset (u : State) (good : Bool) (pins : u.pins = s.pins) (pending : u.pending = s.pending) : Effect s (u.reboot good)
  | sent (f : TxFrame) (rest : List TxFrame) (online : s.link.state = .online) (queued : s.link.tx = f :: rest)
      (stays : ¬ (s.link.restartAwaited = true ∧ f.isRestartAnswer = true)) :
      Effect s { s with link := { s.link with tx := rest } }
  | offline (online : s.link.state = .online)
      (stays : ¬ (s.link.restartAwaited = true ∧ s.link.tx.any TxFrame.isRestartAnswer = true)) : Effect s s.goOffline
  | writeFailed : Effect s { s with store := { s.store with nv := .unmatched s.store.image, result := .failed } }
  | received (f : CanFrame) (short : f.data.length ≤ 8) : Effect s (s.receive f)
  | recovered (off : s.link.busOff = true) :
      Effect s { s.mapEntries (fun st e => { e with lapse := s.resumeLapse st e.lapse }) with
        link := { s.link with state := .online, busOff := false } }
  | lapse (st : Station) : Effect s (s.lapse st)
  | duration : Effect s (State.durationExpiry { s with table := { s.table with
      durationTimer := some Config.durationPeriod } })
  | allocated (run : s.modes.mode = .run) : Effect s (State.recomputeSupply { s with climate := { s.climate with
      allocationTimer := some Config.allocationPeriod } }).allocate
  | supplyJudged (rests : s.modes.mode ≠ .run) : Effect s (State.recomputeSupply { s with climate := { s.climate with
      allocationTimer := some Config.allocationPeriod } })
  | scanBegun : Effect s { s with scanner := { s.scanner with
      scan := s.store.live.enabledChannels, scanTimer := some s.store.live.scanPeriod } }
  | converted (c : ChannelId) (rest : List ChannelId) (raw : BitVec 12) (scan : s.scanner.scan = c :: rest) :
      Effect s (State.convert { s with scanner := { s.scanner with scan := rest } } c raw).homingCheck
  | dwelt : Effect s s.dwellExpiry.homingCheck
  | cleared : Effect s s.clearHoldExpiry
  | cabCleared : Effect s s.cabClearExpiry
  | intakeComputed (run : s.modes.mode = .run) : Effect s (State.computeIntake { s with intake := { s.intake with
      intakeTimer := some Config.intakePeriod } })
  | intakePeriod (rests : s.modes.mode ≠ .run) : Effect s { s with intake := { s.intake with
      intakeTimer := some Config.intakePeriod } }
  | doorChanged (door : Fin 6) (isOpen : Bool) (changed : s.pins.doorsOpen[door.val] ≠ isOpen) :
      Effect s (s.doorChange door isOpen)
  | boostEnded (running : s.intake.boostTimer.isSome = true) :
      Effect s (State.boostHand { s with intake := { s.intake with boostTimer := .none } })
  | guardExpired : Effect s { s with coolant := s.coolant.guardExpiry }
  | minOnExpired : Effect s { s with coolant := s.coolant.minOnExpiry }
  | pressureChanged (isOpen : Bool) (changed : s.pins.pressureOpen ≠ isOpen) : Effect s { s with
      pins := { s.pins with pressureOpen := isOpen }
      coolant := if isOpen then s.coolant.pressureOpens else s.coolant.pressureCloses }
  | holdExpired : Effect s { s with coolant := s.coolant.holdExpiry s.pins.pressureOpen }
  | overCurrent (asserted : Bool) : Effect s { s with
      pins := { s.pins with overCurrent := asserted }
      fans := if asserted && !s.pins.overCurrent then { s.fans with pauseTimer := some Config.pauseTime } else s.fans }
  | pauseEnded : Effect s { s with fans := { s.fans with
      pauseTimer := if s.pins.overCurrent then some Config.pauseTime else .none } }
  | stepped (a : ActuatorId) (present : s.actPresent a = true) :
      Effect s { s with drive := s.drive.setAct a ((s.drive.act a).drive s.store.live.travelHigh) }
  | driven {c : Instr} {a : ActuatorId} {f : ActuatorDrive → ActuatorDrive}
      (event : actuatorEvent s.store.live c = some (a, f)) (present : s.actPresent a = true) :
      Effect s (State.homingCheck { s with drive := f s.drive })
  | ignitionChanged (isOn : Bool) (changed : s.pins.ignition ≠ isOn) : Effect s { s with
      pins := { s.pins with ignition := isOn }
      modes := { s.modes with debounce := some Config.debounceTime } }
  | debounced : Effect s s.debounceExpiry.homingCheck

/-- An unconditional command's answer as an effect. -/
theorem Effect.of_next {s t u : State} (h : Effect s u) (e : (.next u : Host.Outcome State Fault Refusal) = .next t) :
    Effect s t := Host.Outcome.next.inj e ▸ h

/-- Every command that answers a next state has one of the effects. -/
theorem exec_effect {c : Instr} {s t : State} (e : exec c s = .next t) : Effect s t := by
  cases row : requestRow c with
  | some parts => exact .request row e
  | none =>
  cases reset : mayReset c with
  | true =>
    rcases exec_mayReset_cases reset e with ⟨u, good, pins, pending, rfl⟩ | rfl | ⟨f, rest, online, queued, stays, rfl⟩ |
      ⟨online, stays, rfl⟩ | rfl
    · exact .reset u good pins pending
    · exact .none
    · exact .sent f rest online queued stays
    · exact .offline online stays
    · exact .writeFailed
  | false =>
  cases event : actuatorEvent s.store.live c with
  | some change =>
    rcases exec_actuatorEvent_cases event e with rfl | ⟨present, rfl⟩
    · exact .none
    · exact .driven event present
  | none =>
  cases c with
  | frameReceived f =>
    obtain ⟨short, rfl⟩ := exec_frameReceived_cases e
    exact .received f short
  | busOffRecovery =>
    rcases exec_busOffRecovery_cases e with rfl | ⟨off, rfl⟩
    · exact .none
    · exact .recovered off
  | lapse st => exact (Effect.lapse st).of_next e
  | durationTimerExpiry => exact Effect.duration.of_next e
  | allocation =>
    by_cases run : s.modes.mode = .run
    · exact (Effect.allocated run).of_next ((congrArg Host.Outcome.next (if_pos run).symm).trans e)
    · exact (Effect.supplyJudged run).of_next ((congrArg Host.Outcome.next (if_neg run).symm).trans e)
  | scanTimerExpiry => exact Effect.scanBegun.of_next e
  | conversionComplete raw =>
    rcases exec_conversionComplete_cases e with rfl | ⟨c, rest, scan, rfl⟩
    · exact .none
    · exact .converted c rest raw scan
  | dwellTimerExpiry => exact Effect.dwelt.of_next e
  | clearHoldExpiry => exact Effect.cleared.of_next e
  | cabClearHoldExpiry => exact Effect.cabCleared.of_next e
  | intakeComputation =>
    by_cases run : s.modes.mode = .run
    · exact (Effect.intakeComputed run).of_next ((congrArg Host.Outcome.next (if_pos run).symm).trans e)
    · exact (Effect.intakePeriod run).of_next ((congrArg Host.Outcome.next (if_neg run).symm).trans e)
  | doorSwitchChange door isOpen =>
    rcases exec_doorSwitchChange_cases e with rfl | ⟨changed, rfl⟩
    · exact .none
    · exact .doorChanged door isOpen changed
  | boostTimerExpiry =>
    rcases exec_boostTimerExpiry_cases e with rfl | ⟨running, rfl⟩
    · exact .none
    · exact .boostEnded running
  | guardTimerExpiry => exact Effect.guardExpired.of_next e
  | minimumOnTimerExpiry => exact Effect.minOnExpired.of_next e
  | highPressureSwitchChange isOpen =>
    rcases exec_highPressureSwitchChange_cases e with rfl | ⟨changed, rfl⟩
    · exact .none
    · exact .pressureChanged isOpen changed
  | pressureHoldExpiry => exact Effect.holdExpired.of_next e
  | overCurrentAssertion asserted => exact (Effect.overCurrent asserted).of_next e
  | pauseTimerExpiry =>
    rcases exec_pauseTimerExpiry_cases e with rfl | rfl
    · exact .none
    · exact .pauseEnded
  | actuatorStep a =>
    by_cases present : s.actPresent a = true
    · exact (Effect.stepped a present).of_next ((congrArg Host.Outcome.next (if_pos present).symm).trans e)
    · exact Effect.none.of_next ((congrArg Host.Outcome.next (if_neg present).symm).trans e)
  | ignitionInputChange isOn =>
    rcases exec_ignitionInputChange_cases e with rfl | ⟨changed, rfl⟩
    · exact .none
    · exact .ignitionChanged isOn changed
  | ignitionDebounceExpiry => exact Effect.debounced.of_next e
  | _ => contradiction

/-- What a millisecond, a change of the queue and every effect keep, every step keeps. -/
theorem step_keeps_of_effect {P : State → Prop} (tick : ∀ s, P s → P s.tick) (queue : ∀ s q, P s → P (s.withPending q))
    (effect : ∀ s t, P s → Effect s t → P t) (s t : State) (h : P s) (e : step s = .next t) : P t :=
  step_keeps tick queue (fun _ s t h e => effect s t h (exec_effect e)) s t h e

end Sys2Proof.Machine
end

section
/-! SUPPORT. All that the mode controller can do, said once, and what each block is after an entry into PARKED and after an
allocation. -/

namespace Sys2Proof.Machine

variable (s : State)

/-! ## The modes -/

/-- All that the check for the end of homing can do (R184). -/
theorem State.homingCheck_cases :
    s.homingCheck = s ∨ (s.modes.mode = .homing ∧ s.homingCheck = s.enterRun) ∨
    (s.modes.mode = .homing ∧ s.homingCheck = s.enterParked) := by
  unfold State.homingCheck
  by_cases done : s.modes.mode = .homing ∧ s.allSettled = true
  · by_cases on : s.modes.ignition = true
    · exact .inr (.inl ⟨done.1, by rw [if_pos done, if_pos on]⟩)
    · exact .inr (.inr ⟨done.1, by rw [if_pos done, if_neg on]⟩)
  · exact .inl (if_neg done)

/-- What the entries into RUN and PARKED keep, the check for the end of homing keeps. -/
theorem State.homingCheck_keeps {P : State → Prop} (run : ∀ s, P s → P (State.enterRun s))
    (parked : ∀ s, P s → P (State.enterParked s)) (h : P s) : P s.homingCheck := by
  rcases s.homingCheck_cases with e | ⟨_, e⟩ | ⟨_, e⟩ <;> rw [e]
  · exact h
  · exact run s h
  · exact parked s h

/-- All that an ignition change can do (R184, R185). -/
theorem State.ignitionChange_cases (on : Bool) :
    s.ignitionChange on = s ∨
    ((s.modes.mode = .homing ∨ s.modes.mode = .run) ∧ s.ignitionChange on = s.enterParked) ∨
    (s.modes.mode = .parked ∧ s.ignitionChange on = s.enterRun) ∨
    (s.modes.mode = .parked ∧ s.ignitionChange on = s.enterHoming) := by
  cases m : s.modes.mode with
  | start => exact .inl (by unfold State.ignitionChange; rw [m])
  | homing =>
    cases on
    · exact .inr (.inl ⟨.inl rfl, s.ignitionChange_off (.inl m)⟩)
    · exact .inl (by unfold State.ignitionChange; rw [m])
  | run =>
    cases on
    · exact .inr (.inl ⟨.inr rfl, s.ignitionChange_off (.inr m)⟩)
    · exact .inl (by unfold State.ignitionChange; rw [m])
  | parked =>
    cases on
    · exact .inl (by unfold State.ignitionChange; rw [m])
    · rw [s.ignitionChange_on m]
      by_cases finished : s.homingFinished = true
      · exact .inr (.inr (.inl ⟨rfl, if_pos finished⟩))
      · exact .inr (.inr (.inr ⟨rfl, if_neg finished⟩))

/-- All that the debounce timer's expiry can do (R183): nothing, the input's level taken, and then an ignition change. -/
theorem State.debounceExpiry_cases :
    s.debounceExpiry = s ∨ s.debounceExpiry = s.debounced ∨
    ((s.modes.mode = .homing ∨ s.modes.mode = .run) ∧ s.debounceExpiry = s.debounced.enterParked) ∨
    (s.modes.mode = .parked ∧ s.debounceExpiry = s.debounced.enterRun) ∨
    (s.modes.mode = .parked ∧ s.debounceExpiry = s.debounced.enterHoming) := by
  cases timer : s.modes.debounce with
  | none => exact .inl (by simp [State.debounceExpiry, timer])
  | some ms =>
    by_cases same : s.modes.ignition = s.pins.ignition
    · exact .inr (.inl (by simp [State.debounceExpiry, timer, same]))
    · rw [s.debounceExpiry_change (by simp [timer]) same]
      exact .inr (s.debounced.ignitionChange_cases s.pins.ignition)

/-- What taking the input's level and the entries into HOMING, RUN and PARKED keep, the debounce timer's expiry keeps. -/
theorem State.debounceExpiry_keeps {P : State → Prop} (debounced : ∀ s, P s → P (State.debounced s))
    (homing : ∀ s, s.modes.mode = .parked → P s → P (State.enterHoming s))
    (run : ∀ s, P s → P (State.enterRun s)) (parked : ∀ s, P s → P (State.enterParked s)) (h : P s) :
    P s.debounceExpiry := by
  rcases s.debounceExpiry_cases with e | e | ⟨_, e⟩ | ⟨_, e⟩ | ⟨m, e⟩ <;> rw [e]
  · exact h
  · exact debounced s h
  · exact parked _ (debounced s h)
  · exact run _ (debounced s h)
  · exact homing _ m (debounced s h)

/-! ## The entries by their blocks -/

@[simp] theorem State.enterParked_coolant : s.enterParked.coolant = s.coolant.park := by
  obtain ⟨_, _, e⟩ := s.enterParked_eq; rw [e]

@[simp] theorem State.enterParked_climate : s.enterParked.climate = s.climate.rest := by
  obtain ⟨_, _, e⟩ := s.enterParked_eq; rw [e]

@[simp] theorem State.enterParked_intake : s.enterParked.intake = s.intake.park := by
  obtain ⟨_, _, e⟩ := s.enterParked_eq; rw [e]

@[simp] theorem State.enterParked_fans : s.enterParked.fans = { s.fans with blowerDuty := 0, fanDuty := 0 } := by
  obtain ⟨_, _, e⟩ := s.enterParked_eq; rw [e]

@[simp] theorem State.enterParked_modes : s.enterParked.modes = { s.modes with mode := .parked } :=
  s.enterParked_enters.modes

@[simp] theorem State.enterRun_modes : s.enterRun.modes = { s.modes with mode := .run } := by
  simp [State.enterRun]

@[simp] theorem State.enterHoming_modes : s.enterHoming.modes = { s.modes with mode := .homing } := by
  simp [State.enterHoming]

/-! ## An allocation by its blocks -/

@[simp] theorem State.putBehind_fold_climate (l : List Slot) : (l.foldl State.putBehind s).climate = s.climate :=
  foldl_frame State.climate _ (fun s n => by simp) l s

/-- Stage 4 for one zone writes that zone's state of the computer (R64, R94). -/
@[simp] theorem State.serveZone_climate (z : Zone) (p : ZonePlan) (g : Nat) :
    (s.serveZone z p g).climate = { s.climate with
      zones := s.climate.zones.set z.val (s.climate.zones[z.val].after p g (s.store.live.flowPerLevel z)) } := by
  unfold State.serveZone
  simp only [State.putBehind_fold_climate]
  split <;> simp

/-- Stage 4 for the zones one after another writes zone states alone. -/
theorem State.serveZones_climate {α : Type} (z : α → Zone) (p : α → ZonePlan) (g : α → Nat) (l : List α) :
    (l.foldl (fun s x => s.serveZone (z x) (p x) (g x)) s).climate = { s.climate with
      zones := (l.foldl (fun s x => s.serveZone (z x) (p x) (g x)) s).climate.zones } := by
  induction l generalizing s with
  | nil => rfl
  | cons x l ih => rw [List.foldl_cons, ih, State.serveZone_climate]

/-- An allocation hands the two requests to the coolant side (R98, R99). -/
theorem State.allocate_coolant : ∃ cooling heat, s.allocate.coolant = (s.coolant.handCooling cooling).handHeat heat := by
  unfold State.allocate
  simp only [State.handTargets_frame]
  rw [foldl_frame State.coolant _ (fun s p => by simp)]
  exact ⟨_, _, rfl⟩

@[simp] theorem State.allocate_effectiveSupply :
    s.allocate.climate.effectiveSupply = s.climate.effectiveSupply := by
  unfold State.allocate
  simp only [State.handTargets_frame]
  rw [s.serveZones_climate]

/-- The effective supply level recomputed (R68): the greater of the held level and the voltage level, and the SUPPLY lockout
judged at a change of it (R110). -/
theorem State.recomputeSupply_coolant :
    s.recomputeSupply.coolant = if s.climate.effectiveSupply = max s.register.supply s.climate.voltageLevel then s.coolant
      else s.coolant.judge { s.coolant.lockouts with
        supply := max s.register.supply s.climate.voltageLevel == 3 } := by
  unfold State.recomputeSupply; simp only; split <;> rfl

@[simp] theorem State.recomputeSupply_climate :
    s.recomputeSupply.climate = { s.climate with
      effectiveSupply := max s.register.supply s.climate.voltageLevel } := by
  unfold State.recomputeSupply; simp only; split <;> rfl

/-! ## A conversion by its blocks -/

/-- What a conversion does to the clutch control (R107, R108): nothing, or lockouts other than SUPPLY and PRESSURE judged. -/
theorem State.convert_coolant (c : ChannelId) (raw : BitVec 12) :
    (s.convert c raw).coolant = s.coolant ∨
    ∃ l : Lockouts, l.supply = s.coolant.lockouts.supply ∧ l.pressure = s.coolant.lockouts.pressure ∧
      (s.convert c raw).coolant = s.coolant.judge l := by
  unfold State.convert State.deliver
  simp only
  split
  · refine .inr ⟨_, ?_, ?_, rfl⟩ <;> simp only [Lockouts.onCold] <;> (repeat' split) <;> rfl
  · refine .inr ⟨_, ?_, ?_, rfl⟩ <;> simp only [Lockouts.onOutside] <;> (repeat' split) <;> rfl
  all_goals exact .inl (by simp)

/-- A conversion writes the voltage level of the climate computer alone (R66). -/
theorem State.convert_climate (c : ChannelId) (raw : BitVec 12) :
    (s.convert c raw).climate = { s.climate with voltageLevel := (s.convert c raw).climate.voltageLevel } := by
  unfold State.convert State.deliver
  simp only
  split
  case h_6 => rfl
  all_goals simp

/-! ## A reset by its blocks -/

section
variable (good : Bool)

@[simp] theorem State.clearVolatile_table : s.clearVolatile.table = {} := rfl
@[simp] theorem State.clearVolatile_register :
    s.clearVolatile.register = .afterReset s.store.nvAtReset.load.1 := rfl
@[simp] theorem State.clearVolatile_climate : s.clearVolatile.climate = {} := rfl
@[simp] theorem State.clearVolatile_coolant : s.clearVolatile.coolant = .afterReset s.pins := rfl
@[simp] theorem State.clearVolatile_air : s.clearVolatile.air = .afterReset s.store.nvAtReset.load.1 := rfl
@[simp] theorem State.clearVolatile_intake : s.clearVolatile.intake = {} := rfl
@[simp] theorem State.clearVolatile_scanner : s.clearVolatile.scanner = .afterReset s.store.nvAtReset.load.1 := rfl
@[simp] theorem State.clearVolatile_drive : s.clearVolatile.drive = .afterReset := rfl
@[simp] theorem State.clearVolatile_fans : s.clearVolatile.fans = .afterReset s.pins := rfl
@[simp] theorem State.clearVolatile_link : s.clearVolatile.link = {} := rfl
@[simp] theorem State.clearVolatile_store : s.clearVolatile.store =
    { nv := s.store.nvAtReset, live := s.store.nvAtReset.load.1, image := s.store.nvAtReset.load.1,
      selfCheck := s.store.nvAtReset.load.2 } := rfl
@[simp] theorem State.clearVolatile_modes : s.clearVolatile.modes = .afterReset s.pins := rfl
@[simp] theorem State.clearVolatile_pins : s.clearVolatile.pins = s.pins := rfl
@[simp] theorem State.clearVolatile_pending : s.clearVolatile.pending = s.pending := rfl

@[simp] theorem State.evaluateAtReset_frame :
    s.evaluateAtReset.climate = s.climate ∧ s.evaluateAtReset.coolant = s.coolant ∧
    s.evaluateAtReset.scanner = s.scanner ∧ s.evaluateAtReset.fans = s.fans ∧
    s.evaluateAtReset.store = s.store ∧ s.evaluateAtReset.modes = s.modes ∧ s.evaluateAtReset.pins = s.pins ∧
    s.evaluateAtReset.pending = s.pending := by
  unfold State.evaluateAtReset; split <;> simp

@[simp] theorem State.startUp_frame :
    (s.startUp good).climate = s.climate ∧ (s.startUp good).coolant = s.coolant ∧ (s.startUp good).air = s.air ∧
    (s.startUp good).intake = s.intake ∧ (s.startUp good).scanner = s.scanner ∧ (s.startUp good).fans = s.fans ∧
    (s.startUp good).store.live = s.store.live ∧ (s.startUp good).pins = s.pins ∧
    (s.startUp good).pending = s.pending := by
  unfold State.startUp; split <;> simp

@[simp] theorem State.reboot_frame :
    (s.reboot good).climate = {} ∧ (s.reboot good).coolant = .afterReset s.pins ∧
    (s.reboot good).scanner = .afterReset s.store.nvAtReset.load.1 ∧ (s.reboot good).fans = .afterReset s.pins ∧
    (s.reboot good).store.live = s.store.nvAtReset.load.1 ∧ (s.reboot good).pins = s.pins ∧
    (s.reboot good).pending = s.pending := by
  simp [State.reboot]

end

end Sys2Proof.Machine
end

section
/-! SUPPORT. The clutch control stays sound (R105, R106, R109 to R114): each operation on it, and then each command. -/

namespace Sys2Proof.Machine

/-! ## The clutch alone -/

/-- What each clutch state says of the timers, the lockouts and the request kept (R105, R111 to R114): the clauses of
`State.ClutchSound` that read the clutch control alone. -/
def CoolantControl.Poised (c : CoolantControl) : Prop :=
  match c.clutch with
  | .on => c.lockouts.any = false ∧ c.guardTimer = none ∧ (c.minOnTimer = none → c.cooling = true)
  | .off => c.lockouts.any = false ∧ c.guardTimer = none ∧ c.minOnTimer = none ∧ c.cooling = false
  | .guard => c.guardTimer.isSome = true ∧ c.minOnTimer = none
  | .locked => c.lockouts.any = true ∧ c.minOnTimer = none

namespace CoolantControl.Poised

variable {c : CoolantControl} (h : c.Poised)
include h

/-- Lockouts judged (R106, R111, R112, R114). -/
theorem judge (l : Lockouts) : (c.judge l).Poised := by
  unfold CoolantControl.judge CoolantControl.lockoutComes CoolantControl.lockoutsClear
  unfold Poised at *
  cases state : c.clutch
  case locked =>
    cases now : l.any with
    | true => simp_all
    | false => cases timer : c.guardTimer.isSome <;> cases request : c.cooling <;> simp_all [CoolantControl.engage]
  all_goals cases now : l.any <;> simp_all [CoolantControl.release]

/-- The cooling request handed (R111, R112). -/
theorem handCooling (request : Bool) : (c.handCooling request).Poised := by
  unfold CoolantControl.handCooling
  unfold Poised at *
  cases state : c.clutch
  case off => cases request <;> simp_all [CoolantControl.engage]
  case on => cases request <;> cases kept : c.cooling <;> cases timer : c.minOnTimer <;> simp_all [CoolantControl.release]
  all_goals simp_all

/-- The heat request handed (R116). -/
theorem handHeat (request : Bool) : (c.handHeat request).Poised := by
  unfold CoolantControl.handHeat
  unfold Poised at *
  cases state : c.clutch <;> simp_all

/-- The guard timer's expiry (R113, R114). -/
theorem guardExpiry : c.guardExpiry.Poised := by
  unfold CoolantControl.guardExpiry
  cases timer : c.guardTimer with
  | none => exact h
  | some ms =>
    unfold Poised at *
    cases state : c.clutch
    case guard =>
      cases held : c.lockouts.any <;> cases request : c.cooling <;> simp_all [CoolantControl.engage]
    all_goals simp_all

/-- The minimum-on timer's expiry (R112). -/
theorem minOnExpiry : c.minOnExpiry.Poised := by
  unfold CoolantControl.minOnExpiry
  cases timer : c.minOnTimer with
  | none => exact h
  | some ms =>
    unfold Poised at *
    cases state : c.clutch
    case on => cases request : c.cooling <;> simp_all [CoolantControl.release]
    all_goals simp_all

/-- The entry into PARKED (R115). -/
theorem park : c.park.Poised := by
  unfold CoolantControl.park
  unfold Poised at *
  cases state : c.clutch <;> simp_all [CoolantControl.release]

/-- The pressure hold is read by no clause. -/
theorem withHold (t : Timer) : ({ c with pressureHold := t } : CoolantControl).Poised := h

/-- Every running timer loses a millisecond (log 4). -/
theorem tick : ({ c with
    guardTimer := tickTimer c.guardTimer
    minOnTimer := tickTimer c.minOnTimer
    pressureHold := tickTimer c.pressureHold } : CoolantControl).Poised := by
  unfold Poised at *
  cases state : c.clutch <;> simp_all [tickTimer]

end CoolantControl.Poised

/-! ## What the operations leave of the lockouts and the pressure hold -/

section
variable (c : CoolantControl)

@[simp] theorem CoolantControl.judge_lockouts (l : Lockouts) : (c.judge l).lockouts = l := by
  simp only [CoolantControl.judge, CoolantControl.lockoutComes, CoolantControl.lockoutsClear]
  (repeat' split) <;> rfl

@[simp] theorem CoolantControl.judge_pressureHold (l : Lockouts) : (c.judge l).pressureHold = c.pressureHold := by
  simp only [CoolantControl.judge, CoolantControl.lockoutComes, CoolantControl.lockoutsClear]
  (repeat' split) <;> rfl

/-- An operation that leaves the lockouts and the pressure hold as they are. -/
structure CoolantControl.HoldsKept (d c : CoolantControl) : Prop where
  lockouts : d.lockouts = c.lockouts
  hold : d.pressureHold = c.pressureHold

theorem CoolantControl.handCooling_kept (request : Bool) : (c.handCooling request).HoldsKept c := by
  simp only [CoolantControl.handCooling]; (repeat' split) <;> exact ⟨rfl, rfl⟩

theorem CoolantControl.guardExpiry_kept : c.guardExpiry.HoldsKept c := by
  simp only [CoolantControl.guardExpiry]; (repeat' split) <;> exact ⟨rfl, rfl⟩

theorem CoolantControl.minOnExpiry_kept : c.minOnExpiry.HoldsKept c := by
  simp only [CoolantControl.minOnExpiry]; (repeat' split) <;> exact ⟨rfl, rfl⟩

theorem CoolantControl.park_kept : c.park.HoldsKept c := by
  simp only [CoolantControl.park]; (repeat' split) <;> exact ⟨rfl, rfl⟩

end

/-! ## The clutch on the machine -/

/-- The clutch control is sound where it is poised and the SUPPLY and PRESSURE lockouts follow their causes. -/
theorem State.clutchSound_iff (s : State) : s.ClutchSound ↔ s.coolant.Poised ∧
    (s.coolant.lockouts.supply = true ↔ s.climate.effectiveSupply = 3) ∧
    (s.coolant.lockouts.pressure = true ↔ (s.pins.pressureOpen = true ∨ s.coolant.pressureHold.isSome = true)) ∧
    (s.pins.pressureOpen = true → s.coolant.pressureHold = none) := by
  constructor
  · rintro ⟨on, off, guard, locked, supply, pressure, hold⟩
    refine ⟨?_, supply, pressure, hold⟩
    unfold CoolantControl.Poised
    split
    · exact on ‹_›
    · exact off ‹_›
    · exact guard ‹_›
    · exact locked ‹_›
  · rintro ⟨poised, supply, pressure, hold⟩
    unfold CoolantControl.Poised at poised
    refine ⟨fun e => ?_, fun e => ?_, fun e => ?_, fun e => ?_, supply, pressure, hold⟩ <;>
      (rw [e] at poised; exact poised)

@[simp] theorem State.doorChange_pressureOpen (s : State) (door : Fin 6) (isOpen : Bool) :
    (s.doorChange door isOpen).pins.pressureOpen = s.pins.pressureOpen := by
  simp only [State.doorChange]; (repeat' split) <;> simp

namespace State.ClutchSound

variable {s t : State} (h : s.ClutchSound)
include h

/-- The clutch control is read from three items. -/
theorem congr (coolant : t.coolant = s.coolant) (level : t.climate.effectiveSupply = s.climate.effectiveSupply)
    (pins : t.pins.pressureOpen = s.pins.pressureOpen) : t.ClutchSound := by
  rw [State.clutchSound_iff] at *
  rwa [coolant, level, pins]

/-- A command that works the clutch and keeps the lockouts and the pressure hold. -/
theorem of_kept (poised : t.coolant.Poised) (kept : t.coolant.HoldsKept s.coolant)
    (level : t.climate.effectiveSupply = s.climate.effectiveSupply) (pins : t.pins = s.pins) : t.ClutchSound := by
  rw [State.clutchSound_iff] at *
  exact ⟨poised, by rw [kept.lockouts, kept.hold, level, pins]; exact h.2⟩

theorem poised : s.coolant.Poised := ((State.clutchSound_iff s).1 h).1

theorem tick : s.tick.ClutchSound := by
  obtain ⟨poised, supply, pressure, hold⟩ := (State.clutchSound_iff s).1 h
  refine (State.clutchSound_iff _).2 ⟨CoolantControl.Poised.tick poised, supply, ?_, fun opened => ?_⟩
  · simpa [State.tick, tickTimer] using pressure
  · simp [State.tick, tickTimer, hold opened]

/-- Lockouts other than SUPPLY and PRESSURE judged (R107, R108). -/
theorem judge {l : Lockouts} (supply : l.supply = s.coolant.lockouts.supply)
    (pressure : l.pressure = s.coolant.lockouts.pressure) (coolant : t.coolant = s.coolant.judge l)
    (level : t.climate.effectiveSupply = s.climate.effectiveSupply) (pins : t.pins = s.pins) : t.ClutchSound := by
  obtain ⟨poised, rest⟩ := (State.clutchSound_iff s).1 h
  refine (State.clutchSound_iff t).2 ⟨coolant ▸ poised.judge l, ?_⟩
  rw [coolant, level, pins, CoolantControl.judge_lockouts, CoolantControl.judge_pressureHold, supply, pressure]
  exact rest

/-- The effective supply level recomputed, and with it the SUPPLY lockout (R110). -/
theorem recomputeSupply : s.recomputeSupply.ClutchSound := by
  obtain ⟨poised, supply, pressure, hold⟩ := (State.clutchSound_iff s).1 h
  rw [State.clutchSound_iff, State.recomputeSupply_coolant, State.recomputeSupply_climate]
  by_cases same : s.climate.effectiveSupply = max s.register.supply s.climate.voltageLevel
  · rw [if_pos same]
    exact ⟨poised, by rw [← same]; exact supply, by simpa using pressure, by simpa using hold⟩
  · rw [if_neg same]
    exact ⟨poised.judge _, by simp, by simpa using pressure, by simpa using hold⟩

theorem allocate : s.allocate.ClutchSound := by
  obtain ⟨cooling, heat, e⟩ := s.allocate_coolant
  have kept := s.coolant.handCooling_kept cooling
  exact h.of_kept (e ▸ (h.poised.handCooling cooling).handHeat heat) (e ▸ ⟨kept.lockouts, kept.hold⟩) (by simp) (by simp)

theorem enterParked : s.enterParked.ClutchSound :=
  h.of_kept (by simpa using h.poised.park) (by simpa using s.coolant.park_kept) (by simp [ClimateComputer.rest]) (by simp)

theorem homingCheck : s.homingCheck.ClutchSound :=
  s.homingCheck_keeps (fun _ h => h.congr (by simp) (by simp) (by simp)) (fun _ h => h.enterParked) h

theorem convert (c : ChannelId) (raw : BitVec 12) : (s.convert c raw).ClutchSound := by
  have level : (s.convert c raw).climate.effectiveSupply = s.climate.effectiveSupply := by rw [State.convert_climate]
  rcases s.convert_coolant c raw with e | ⟨l, supply, pressure, e⟩
  · exact h.congr e level (by simp)
  · exact h.judge supply pressure e level (by simp)

theorem debounceExpiry : s.debounceExpiry.ClutchSound :=
  s.debounceExpiry_keeps (fun _ h => h.congr (by simp) (by simp) (by simp))
    (fun _ _ h => h.congr (by simp) (by simp) (by simp)) (fun _ h => h.congr (by simp) (by simp) (by simp))
    (fun _ h => h.enterParked) h

/-- The high-pressure switch changes its level (R109). -/
theorem highPressureSwitchChange {isOpen : Bool} (changed : s.pins.pressureOpen ≠ isOpen) :
    ({ s with
      pins := { s.pins with pressureOpen := isOpen }
      coolant := if isOpen then s.coolant.pressureOpens else s.coolant.pressureCloses } : State).ClutchSound := by
  obtain ⟨poised, supply, pressure, hold⟩ := (State.clutchSound_iff s).1 h
  cases isOpen
  · have opened : s.pins.pressureOpen = true := by simpa using changed
    refine (State.clutchSound_iff _).2 ⟨poised.withHold _, supply, ?_, by simp⟩
    simp [CoolantControl.pressureCloses, pressure, opened]
  · refine (State.clutchSound_iff _).2 ⟨(poised.withHold _).judge _, ?_, ?_, ?_⟩ <;>
      simp [CoolantControl.pressureOpens, supply]

/-- The pressure hold's expiry (R109). -/
theorem pressureHoldExpiry : ({ s with coolant := s.coolant.holdExpiry s.pins.pressureOpen } : State).ClutchSound := by
  obtain ⟨poised, supply, pressure, hold⟩ := (State.clutchSound_iff s).1 h
  unfold CoolantControl.holdExpiry
  cases timer : s.coolant.pressureHold with
  | none => exact h
  | some ms =>
    have closed : s.pins.pressureOpen = false := by
      cases opened : s.pins.pressureOpen
      · rfl
      · rw [hold opened] at timer; cases timer
    refine (State.clutchSound_iff _).2 ?_
    simp only [closed, Bool.false_eq_true, if_false]
    exact ⟨(poised.withHold _).judge _, by simp [supply], by simp, by simp⟩

end State.ClutchSound

/-- A reset leaves the clutch control sound (R105, R106). -/
theorem State.reboot_clutchSound (s : State) (good : Bool) : (s.reboot good).ClutchSound := by
  simp only [State.clutchSound_iff, State.reboot_frame]
  exact ⟨⟨rfl, rfl⟩, by simp [CoolantControl.afterReset], by simp [CoolantControl.afterReset], fun _ => rfl⟩

/-- Every command keeps the clutch control sound. -/
theorem effect_clutchSound (s t : State) (h : s.ClutchSound) (e : Effect s t) : t.ClutchSound := by
  cases e with
  | none => exact h
  | request row e =>
    have kept := exec_request_kept row e
    exact h.congr kept.coolant (by rw [kept.climate]) (by rw [kept.pins])
  | reset u good pins pending => exact u.reboot_clutchSound good
  | offline online stays => exact h.congr (by simp) (by simp) (by simp)
  | received f short => exact h.congr (by simp) (by simp) (by simp)
  | lapse st => exact h.congr (by simp) (by simp) (by simp)
  | duration => exact h.congr (by simp) (by simp) (by simp)
  | allocated run =>
    refine State.ClutchSound.allocate (State.ClutchSound.recomputeSupply ?_)
    exact h.congr rfl rfl rfl
  | supplyJudged rests =>
    refine State.ClutchSound.recomputeSupply ?_
    exact h.congr rfl rfl rfl
  | converted c rest raw scan =>
    refine State.ClutchSound.homingCheck (State.ClutchSound.convert ?_ c raw)
    exact h.congr rfl rfl rfl
  | dwelt => exact State.ClutchSound.homingCheck (h.congr (by simp) (by simp) (by simp))
  | cleared => exact h.congr (by simp) (by simp) (by simp)
  | cabCleared => exact h.congr (by simp) (by simp) (by simp)
  | intakeComputed run => exact h.congr (by simp) (by simp) (by simp)
  | doorChanged door isOpen changed => exact h.congr (by simp) (by simp) (by simp)
  | boostEnded running => exact h.congr (by simp) (by simp) (by simp)
  | guardExpired => exact h.of_kept h.poised.guardExpiry s.coolant.guardExpiry_kept rfl rfl
  | minOnExpired => exact h.of_kept h.poised.minOnExpiry s.coolant.minOnExpiry_kept rfl rfl
  | pressureChanged isOpen changed => exact h.highPressureSwitchChange changed
  | holdExpired => exact h.pressureHoldExpiry
  | driven event present => exact State.ClutchSound.homingCheck (h.congr rfl rfl rfl)
  | debounced => exact h.debounceExpiry.homingCheck
  | sent | writeFailed | recovered | scanBegun | intakePeriod | overCurrent | pauseEnded | stepped | ignitionChanged =>
    exact h.congr rfl rfl rfl

/-- Settles O54: every operation on the clutch keeps it poised, and the lockouts follow their causes. -/
theorem stepsKeepTheClutchSound : Obligations.StepsKeepTheClutchSound :=
  step_keeps_of_effect (fun _ h => h.tick) (fun _ _ h => h.congr rfl rfl rfl) effect_clutchSound

end Sys2Proof.Machine
end

section
/-! SUPPORT. The link stays sound (R164 to R166, R169, R170, R182): what serving a request does to the link, the answer placed
in its reserved room, and then each command. -/

namespace Sys2Proof.Machine

/-! ## The request rows and the link -/

/-- What serving a request does to the link: notices alone, the link overrun flag cleared by PLANT_STATUS (R165), or, with
the status OK in an answer of one frame, a restart awaited (R182). -/
inductive Link.Served (l : Link) (c : Instr) (a : Answer) : Link → Prop
  | grew {m : Link} (h : l.Grew m) : Link.Served l c a m
  | reported : Link.Served l c a { l with overrun := false }
  | awaits (row : c = .restart) (answer : a = .plain .ok) : Link.Served l c a { l with restartAwaited := true }

@[simp] theorem State.beginTake_list (s : State) (f : RxFrame) (rest : List RxFrame) (n : Nat) (t : Target) :
    (s.beginTake f rest n).list t = s.list t := State.list_congr (by simp) t

@[simp] theorem State.beginTake_record (s : State) (f : RxFrame) (rest : List RxFrame) (n : Nat) (m : Slot) :
    (s.beginTake f rest n).record m = s.record m := State.record_congr (by simp) m

@[simp] theorem State.beginTake_listChecks (s : State) (f g : RxFrame) (rest : List RxFrame) (n : Nat) :
    (s.beginTake f rest n).listChecks g = s.listChecks g := by
  simp only [State.listChecks, State.beginTake_gate, State.beginTake_frame]

@[simp] theorem Answer.one_length (st : Status) (hi : Nat) (b : Vector Byte 6) : (Answer.one st hi b).parts.length = 1 := rfl

@[simp] theorem Answer.noRecord_length (st : Status) : (Answer.noRecord st).parts.length = 1 := rfl

@[simp] theorem State.recordAnswer_length (s : State) (st : Status) (n : Slot) : (s.recordAnswer st n).parts.length = 1 := by
  unfold State.recordAnswer; split <;> rfl

section
variable {c : Instr} {row : RequestRow} (h : requestRow c = some row)
include h

/-- Serving a request hands notices, reports the overrun flag, or, in the row RESTART, begins to await the restart. -/
theorem requestRow_serve_link (s : State) (f : RxFrame) :
    s.link.Served c (row.serve s f).2 (row.serve s f).1.link := by
  cases c with
  | post => cases h; exact .grew (s.servePost_grew f)
  | plantStatus => cases h; exact .reported
  | restart =>
    cases h
    simp only [State.serveRestart]
    (repeat' split)
    · exact .grew (.refl _)
    · exact .grew (.refl _)
    · exact .awaits rfl rfl
  | _ => cases h <;> exact .grew (.of_eq (by simp))

/-- The room that a row reserves is read from what the taking leaves as it is. -/
theorem requestRow_room_beginTake (s : State) (f : RxFrame) (rest : List RxFrame) (n : Nat) :
    row.room (s.beginTake f rest n) f = row.room s f := by
  cases c with
  | list => cases h; simp only [State.listRoom, State.beginTake_listChecks, State.beginTake_list]
  | _ => cases h <;> rfl

/-- The answer of a row fills exactly the room that the row reserves (R166). -/
theorem requestRow_answer_length (s : State) (f : RxFrame) : (row.serve s f).2.parts.length = row.room s f := by
  cases c <;> cases h
  case list =>
    simp only [State.serveList, State.listRoom]
    split <;> simp [Answer.noList, Answer.one, listAnswer]
  case post => simp only [State.servePost]; (repeat' split) <;> simp [oneFrame]
  case withdrawByKey => simp only [State.serveWithdrawKey]; (repeat' split) <;> simp [oneFrame, State.withdraw]
  case withdrawBySlot => simp only [State.serveWithdrawSlot]; (repeat' split) <;> simp [oneFrame, State.withdraw]
  case lookupByKey => simp only [State.serveLookupKey]; (repeat' split) <;> simp [oneFrame]
  case lookupBySlot => simp only [State.serveLookupSlot]; (repeat' split) <;> simp [oneFrame]
  case refresh => simp only [State.serveRefresh]; split <;> rfl
  case lock => simp only [State.serveLock]; (repeat' split) <;> rfl
  case unlock => simp only [State.serveUnlock]; (repeat' split) <;> rfl
  case zoneStatusPage0 => simp only [State.serveZonePage0]; split <;> rfl
  case zoneStatusPage1 => simp only [State.serveZonePage1]; split <;> rfl
  case plantStatus => rfl
  case supply => simp only [State.serveSupply]; (repeat' split) <;> rfl
  case layoutRead => simp only [State.serveLayoutRead]; (repeat' split) <;> rfl
  case layoutWrite => simp only [State.serveLayoutWrite]; (repeat' split) <;> rfl
  case layoutStore => simp only [State.serveLayoutStore]; (repeat' split) <;> rfl
  case restart => simp only [State.serveRestart]; (repeat' split) <;> rfl
  case badRequest => rfl

end

/-- The answer frame of an accepted RESTART is what the restart waits for (R167, R172, R182). -/
theorem State.answerFrames_restart (s : State) (f : RxFrame) (code : f.num 0 = 14) :
    (s.answerFrames f (.plain .ok)).any TxFrame.isRestartAnswer = true := by
  simp only [State.answerFrames, Answer.plain, Answer.one, answerByte0, code, List.map, List.any, TxFrame.isRestartAnswer,
    TxFrame.answers]
  cases s.answerMark f.station <;> decide

/-- The restart row accepts RESTART frames alone. -/
theorem requestRow_restart {row : RequestRow} (h : requestRow .restart = some row) {f : RxFrame}
    (a : row.accepts f = true) : f.num 0 = 14 := by
  cases h
  simp only [RxFrame.isRequest, Bool.and_eq_true, beq_iff_eq] at a
  exact a.2

/-! ## Sound links -/

namespace State.LinkSound

variable {s t : State} (h : s.LinkSound)
include h

theorem congr (link : t.link = s.link) : t.LinkSound := by
  obtain ⟨tx, rx, reserved, offline, busOff, bytes, restart⟩ := h
  constructor <;> rw [link] <;> assumption

/-- Notices keep the link sound. -/
theorem grew (g : s.link.Grew t.link) : t.LinkSound := by
  obtain ⟨state, busOff, rx, overrun, reserved, restart, fs, tx, room⟩ := g
  have none : s.link.state = .offline → fs = [] := fun off => by
    by_contra some
    have := (room some).1
    rw [off] at this
    cases this
  refine ⟨?_, by rw [rx]; exact h.rx, by rw [reserved]; exact h.reserved, fun off => ?_, fun off => ?_, by rw [rx]; exact h.bytes,
    fun awaited => ?_⟩
  · by_cases some : fs = []
    · simpa [tx, some] using h.tx
    · have := (room some).2
      omega
  · rw [state] at off
    obtain ⟨rxEmpty, txEmpty⟩ := h.offline off
    simp [rx, tx, rxEmpty, txEmpty, none off]
  · rw [state]; exact h.busOff (busOff ▸ off)
  · simp [tx, h.restart (restart ▸ awaited)]

/-- The taking of the head frame by a row keeps the link sound (R166, R167). -/
theorem taken {c : Instr} {row : RequestRow} (known : requestRow c = some row) {f : RxFrame} {rest : List RxFrame}
    (head : s.link.rx = f :: rest) (accepts : row.accepts f = true) (can : s.canTake (row.room s f) = true) :
    State.LinkSound ((row.serve (s.beginTake f rest (row.room s f)) f).1.placeAnswer f
        (row.serve (s.beginTake f rest (row.room s f)) f).2) := by
  obtain ⟨online, calm, room⟩ := (s.canTake_iff _).1 can
  have served := requestRow_serve_link known (s.beginTake f rest (row.room s f)) f
  have filled := (requestRow_answer_length known (s.beginTake f rest (row.room s f)) f).trans
    (requestRow_room_beginTake known s f rest _)
  generalize row.serve (s.beginTake f rest (row.room s f)) f = r at served filled
  have bytes := h.bytes
  have len := h.rx
  rw [head] at bytes len
  have bytes' : ∀ g ∈ rest, g.data.length ≤ 8 := fun g m => bytes g (List.mem_cons_of_mem _ m)
  have len' : rest.length ≤ 8 := by simp at len; omega
  have clear := h.reserved
  have on : s.link.busOff = true → False := fun off => by rw [h.busOff off] at online; cases online
  rw [State.beginTake_link] at served
  generalize e : r.1.link = m at served
  cases served with
  | grew g =>
    obtain ⟨state, busOff, rx, overrun, reserved, restart, fs, tx, room'⟩ := g
    simp only at state busOff rx reserved restart tx
    refine ⟨?_, ?_, ?_, ?_, ?_, ?_, ?_⟩ <;>
      simp only [State.placeAnswer_link, e, state, busOff, rx, restart, tx, online, calm, List.length_append,
        State.answerFrames_length, filled]
    · by_cases some : fs = []
      · simp [some]; omega
      · have := (room' some).2
        simp only [tx, reserved, List.length_append] at this
        omega
    · exact len'
    · nofun
    · exact fun off => (on off).elim
    · exact bytes'
    · nofun
  | reported =>
    refine ⟨?_, ?_, ?_, ?_, ?_, ?_, ?_⟩ <;>
      simp only [State.placeAnswer_link, e, online, calm, List.length_append, State.answerFrames_length, filled]
    · omega
    · exact len'
    · nofun
    · exact fun off => (on off).elim
    · exact bytes'
    · nofun
  | awaits isRestart answer =>
    subst isRestart
    have code := requestRow_restart known accepts
    refine ⟨?_, ?_, ?_, ?_, ?_, ?_, fun _ => ?_⟩ <;>
      simp only [State.placeAnswer_link, e, online, List.length_append, State.answerFrames_length, filled]
    · omega
    · exact len'
    · nofun
    · exact fun off => (on off).elim
    · exact bytes'
    · rw [answer, List.any_append, State.answerFrames_restart _ _ code, Bool.or_true]

/-- A frame at the port (R163 to R165). -/
theorem receive (f : CanFrame) (short : f.data.length ≤ 8) : (s.receive f).LinkSound := by
  unfold State.receive
  split
  · exact h
  · rename_i online
    split
    · exact h
    · split
      · rename_i room
        have room' : s.link.rx.length < 8 := room
        refine ⟨h.tx, by simp; omega, h.reserved, fun off => absurd off online, h.busOff, ?_, h.restart⟩
        intro g m
        rcases List.mem_append.1 m with m | m
        · exact h.bytes g m
        · rw [List.mem_singleton.1 m]; exact short
      · exact ⟨h.tx, h.rx, h.reserved, h.offline, h.busOff, h.bytes, h.restart⟩

/-- The head of the outgoing queue sent, where it is not the answer that a restart waits for (R169). -/
theorem sent {f : TxFrame} {rest : List TxFrame} (online : s.link.state = .online) (queued : s.link.tx = f :: rest)
    (stays : ¬ (s.link.restartAwaited = true ∧ f.isRestartAnswer = true)) :
    State.LinkSound { s with link := { s.link with tx := rest } } := by
  have len := h.tx
  have restart := h.restart
  rw [queued] at len restart
  refine ⟨?_, h.rx, h.reserved, fun off => ?_, h.busOff, h.bytes, fun awaited => ?_⟩
  · simp at len ⊢; omega
  · have off : s.link.state = .offline := off
    rw [online] at off; cases off
  · have other : f.isRestartAnswer = false := by simpa using fun k => stays ⟨awaited, k⟩
    simpa [other] using restart awaited

/-- The entry into bus-off where no restart is awaited (R170). -/
theorem goOffline (stays : ¬ (s.link.restartAwaited = true ∧ s.link.tx.any TxFrame.isRestartAnswer = true)) :
    s.goOffline.LinkSound := by
  constructor <;> simp only [State.goOffline] <;> try simp
  simpa using fun awaited => stays ⟨awaited, h.restart awaited⟩

end State.LinkSound

/-- An OFFLINE link takes no notice. -/
theorem Link.Grew.eq_of_offline {l m : Link} (h : l.Grew m) (off : l.state = .offline) : m = l := by
  obtain ⟨state, busOff, rx, overrun, reserved, restart, fs, tx, room⟩ := h
  have none : fs = [] := by
    by_contra some
    rw [off] at room
    cases (room some).1
  cases l
  cases m
  simp_all

/-- The link is OFFLINE and empty until the start-up (R164, R179). -/
@[simp] theorem State.evaluateAtReset_link (s : State) (off : s.link.state = .offline) :
    s.evaluateAtReset.link = s.link := by
  unfold State.evaluateAtReset
  split
  · exact s.startEvaluation_grew.eq_of_offline off
  · rfl

/-- A reset with a good table memory enters HOMING (R179). -/
theorem State.reboot_good (s : State) : s.reboot true = s.clearVolatile.evaluateAtReset.bringOnline.enterHoming := by
  simp only [State.reboot, State.startUp, if_true]

/-- The link after a reset: ONLINE, with the notices of the start-up alone (R179). -/
theorem State.reboot_link (s : State) (good : Bool) : Link.Grew { state := .online } (s.reboot good).link := by
  have offline : s.clearVolatile.evaluateAtReset.link = {} := State.evaluateAtReset_link _ rfl
  cases good
  · refine .of_eq ?_
    simp [State.reboot, State.startUp, State.bringOnline, offline]
  · have grew := s.clearVolatile.evaluateAtReset.bringOnline.enterHoming_grew
    have online : s.clearVolatile.evaluateAtReset.bringOnline.link = { state := .online } := by
      simp only [State.bringOnline, offline]
    rw [online] at grew
    rwa [State.reboot_good]

theorem State.reboot_linkSound (s : State) (good : Bool) : (s.reboot good).LinkSound := by
  have fresh : State.LinkSound { s with link := { state := .online } } := by
    constructor <;> simp
  exact fresh.grew (s.reboot_link good)

/-- Every command keeps the link sound. -/
theorem effect_linkSound (s t : State) (h : s.LinkSound) (e : Effect s t) : t.LinkSound := by
  cases e with
  | none => exact h
  | request row e =>
    rcases exec_request_cases row e with rfl | ⟨f, rest, head, accepts, can, rfl⟩
    · exact h
    · exact h.taken row head accepts can
  | reset u good pins pending => exact u.reboot_linkSound good
  | sent f rest online queued stays => exact h.sent online queued stays
  | offline online stays => exact h.goOffline stays
  | received f short => exact h.receive f short
  | recovered off => exact ⟨h.tx, h.rx, h.reserved, nofun, nofun, h.bytes, h.restart⟩
  | lapse st => exact h.grew (s.lapse_grew st)
  | duration =>
    refine h.grew (Link.Grew.trans ?_ (State.durationExpiry_grew _))
    exact .refl _
  | allocated run =>
    refine h.grew (Link.Grew.trans ?_ (State.allocate_grew _))
    exact .of_eq (by simp)
  | supplyJudged rests => exact h.congr (by simp)
  | converted c rest raw scan =>
    refine h.grew (Link.Grew.trans (Link.Grew.trans ?_ (State.convert_grew _ c raw)) (State.homingCheck_grew _))
    exact .refl _
  | dwelt => exact h.grew (s.dwellExpiry_grew.trans (State.homingCheck_grew _))
  | cleared => exact h.grew s.clearHoldExpiry_grew
  | cabCleared => exact h.congr (by simp)
  | intakeComputed run =>
    refine h.grew (Link.Grew.trans ?_ (State.computeIntake_grew _))
    exact .refl _
  | doorChanged door isOpen changed => exact h.congr (by simp)
  | boostEnded running => exact h.congr (by simp)
  | driven event present =>
    refine h.grew (Link.Grew.trans ?_ (State.homingCheck_grew _))
    exact .refl _
  | debounced => exact h.grew (s.debounceExpiry_grew.trans (State.homingCheck_grew _))
  | writeFailed | scanBegun | intakePeriod | guardExpired | minOnExpired | pressureChanged | holdExpired | overCurrent
  | pauseEnded | stepped | ignitionChanged => exact h.congr rfl

/-- Settles O55: notices and answers stay within the places, and what is awaited stays in the queue. -/
theorem stepsKeepTheLinkSound : Obligations.StepsKeepTheLinkSound :=
  step_keeps_of_effect (fun _ h => h.congr rfl) (fun _ _ h => h.congr rfl) effect_linkSound

end Sys2Proof.Machine
end

section
/-! SUPPORT. The actuator drive stays sound (R149 to R157): three ways in which an operation changes an actuator, each
operation as one of them, and then each command. -/

namespace Sys2Proof.Machine

/-! ## One actuator -/

/-- What an actuator's state says of its phase, step position and travel (R152, R155): the clauses of `State.DriveSound` that
read one actuator. -/
structure Actuator.Fit (x : Actuator) (low high : Nat) : Prop where
  phase : x.phase = .none ↔ x.state ≠ .homing ∧ x.state ≠ .rehoming
  homed : x.state = .ready ∨ x.state = .moving →
    ∃ T n, x.travel = some T ∧ x.step = some n ∧ low ≤ T ∧ T ≤ high

/-- An actuator that can wait for a channel: UNHOMED or READY (R153). -/
def Actuator.Waits (x : Actuator) : Prop := x.state = .unhomed ∨ x.state = .ready

theorem Actuator.Waits.not_inMotion {x : Actuator} (h : x.Waits) : x.inMotion = false := by
  rcases h with e | e <;> simp [Actuator.inMotion, e]

theorem Actuator.not_waits_of_inMotion {x : Actuator} (h : x.inMotion = true) : ¬ x.Waits := fun w => by
  rw [w.not_inMotion] at h; cases h

section
variable {x y : Actuator} {low high : Nat}

/-- Fitness reads four items. -/
theorem Actuator.Fit.congr (h : x.Fit low high) (state : y.state = x.state) (phase : y.phase = x.phase)
    (travel : y.travel = x.travel) (step : y.step = x.step) : y.Fit low high :=
  ⟨by rw [state, phase]; exact h.phase, by rw [state, travel, step]; exact h.homed⟩

/-- A homing begins fit (R152). -/
theorem Actuator.Fit.beginHoming (st : ActState) (homing : st = .homing ∨ st = .rehoming) :
    (x.beginHoming st).Fit low high := by
  rcases homing with rfl | rfl <;> constructor <;> simp [Actuator.beginHoming]

theorem Actuator.Fit.faulted (reason : FaultReason) :
    ({ x with state := .faulted, phase := .none, reason := reason } : Actuator).Fit low high := by
  constructor <;> simp

end

/-- All that a step does (R152, R155): it counts, or in a move gives the step position and the position reported. -/
theorem Actuator.drive_cases (x : Actuator) (limit : Nat) :
    (∃ c, x.drive limit = { x with count := c }) ∨
    (x.state = .moving ∧ ∃ n p, x.drive limit = { x with step := some n, reported := p }) := by
  unfold Actuator.drive
  split
  case h_3 =>
    simp only
    split
    · exact .inl ⟨x.count, rfl⟩
    · exact .inr ⟨‹_›, _, _, rfl⟩
  all_goals (repeat' split) <;> exact .inl ⟨_, rfl⟩

/-! ## The drive -/

/-- The drive is sound, with `present` the actuators that are driven and `low` and `high` the travel limits: the clauses of
`State.DriveSound`. -/
structure ActuatorDrive.Sound (d : ActuatorDrive) (present : ActuatorId → Bool) (low high : Nat) : Prop where
  channels : d.busy ≤ 6
  once : d.queue.Nodup
  waiting : ∀ a ∈ d.queue, (d.act a).Waits
  freeTaken : d.queue ≠ [] → d.busy = 6
  absent : ∀ a, present a = false → (d.act a).state = .unhomed ∧ a ∉ d.queue
  fit : ∀ a, (d.act a).Fit low high

theorem State.driveSound_iff (s : State) :
    s.DriveSound ↔ s.drive.Sound s.actPresent s.store.live.travelLow s.store.live.travelHigh :=
  ⟨fun ⟨channels, once, waiting, freeTaken, absent, phase, homed⟩ =>
    ⟨channels, once, waiting, freeTaken, absent, fun a => ⟨phase a, homed a⟩⟩,
   fun ⟨channels, once, waiting, freeTaken, absent, fit⟩ =>
    ⟨channels, once, waiting, freeTaken, absent, fun a => (fit a).phase, fun a => (fit a).homed⟩⟩

/-- A waiting actuator that takes a channel is in motion and fit (R153). -/
theorem ActuatorDrive.takeChannel_starts (d : ActuatorDrive) (a : ActuatorId) (low high : Nat) (waits : (d.act a).Waits)
    (fit : (d.act a).Fit low high) :
    ∃ x, d.takeChannel a = d.setAct a x ∧ x.inMotion = true ∧ x.Fit low high := by
  rcases d.takeChannel_cases a with ⟨_, e⟩ | ⟨ready, e⟩ | ⟨unhomed, ready, _⟩
  · exact ⟨_, e, rfl, .beginHoming .homing (.inl rfl)⟩
  · exact ⟨_, e, rfl, ⟨by simp [fit.phase, ready], fun _ => fit.homed (.inl ready)⟩⟩
  · exact (waits.elim unhomed ready).elim

namespace ActuatorDrive.Sound

variable {d : ActuatorDrive} {present : ActuatorId → Bool} {low high : Nat} (h : d.Sound present low high)
include h

/-- A waiting actuator is present. -/
theorem present_of_waiting {a : ActuatorId} (m : a ∈ d.queue) : present a = true := by
  cases p : present a
  · exact absurd m (h.absent a p).2
  · rfl

/-- An actuator in motion, at rest after a move or faulted is present. -/
theorem present_of_state {a : ActuatorId} (m : (d.act a).state ≠ .unhomed) : present a = true := by
  cases p : present a
  · exact absurd (h.absent a p).1 m
  · rfl

/-- An actuator changed that holds a channel if and only if it held one. -/
theorem setAct {a : ActuatorId} {x : Actuator} (motion : x.inMotion = (d.act a).inMotion) (fit : x.Fit low high)
    (waits : a ∈ d.queue → x.Waits) (pres : present a = true) : (d.setAct a x).Sound present low high := by
  have busy : (d.setAct a x).busy = d.busy := by
    have e := d.busy_setAct a x
    rw [motion] at e
    omega
  refine ⟨by rw [busy]; exact h.channels, h.once, fun b m => ?_, fun q => by rw [busy]; exact h.freeTaken q, fun b p => ?_,
    fun b => ?_⟩ <;> rw [ActuatorDrive.act_setAct] <;> split
  · rename_i e; exact waits (e ▸ m)
  · exact h.waiting b m
  · rename_i e; rw [e, pres] at p; cases p
  · exact h.absent b p
  · exact fit
  · exact h.fit b

/-- An actuator with a channel stops, and the oldest waiting one takes the channel (R153). -/
theorem stop {a : ActuatorId} {x : Actuator} (moved : (d.act a).inMotion = true) (still : x.inMotion = false)
    (fit : x.Fit low high) : (d.setAct a x).handOver.Sound present low high := by
  have pres : present a = true := h.present_of_state (fun e => by simp [Actuator.inMotion, e] at moved)
  have out : a ∉ d.queue := fun m => Actuator.not_waits_of_inMotion moved (h.waiting a m)
  have freed := d.busy_setAct a x
  simp only [moved, still, if_true, Bool.false_eq_true, if_false] at freed
  have held := h.channels
  have fits : ∀ b, ((d.setAct a x).act b).Fit low high := fun b => by
    rw [ActuatorDrive.act_setAct]; split
    · exact fit
    · exact h.fit b
  have others : ∀ b, b ≠ a → (d.setAct a x).act b = d.act b := fun b ne => by rw [ActuatorDrive.act_setAct, if_neg ne]
  have absent : ∀ b, present b = false → b ≠ a := fun b p e => by rw [e, pres] at p; cases p
  rcases (d.setAct a x).handOver_cases with ⟨empty, e⟩ | ⟨c, rest, queued, e⟩
  · rw [e]
    refine ⟨by omega, h.once, fun b m => ?_, fun q => absurd empty q, fun b p => ?_, fits⟩
    · rw [empty] at m; cases m
    · rw [others b (absent b p)]; exact h.absent b p
  · have queued : d.queue = c :: rest := queued
    have inQueue : c ∈ d.queue := by rw [queued]; exact List.mem_cons_self
    have ne : c ≠ a := fun e => out (e ▸ inQueue)
    have full := h.freeTaken (by rw [queued]; exact List.cons_ne_nil _ _)
    have once := h.once
    rw [queued] at once
    obtain ⟨fresh, nodup⟩ := List.nodup_cons.1 once
    obtain ⟨w, shape⟩ : ∃ w : ActuatorDrive, w = { d.setAct a x with queue := rest } := ⟨_, rfl⟩
    have acts : ∀ b, w.act b = (d.setAct a x).act b := fun b => by rw [shape]; rfl
    have held : w.busy = (d.setAct a x).busy := by rw [shape]; rfl
    have queue : w.queue = rest := by rw [shape]
    have waits : (w.act c).Waits := by rw [acts, others c ne]; exact h.waiting c inQueue
    obtain ⟨y, taken, moving, fitY⟩ := w.takeChannel_starts c low high waits (acts c ▸ fits c)
    rw [e, ← shape, taken]
    have busy := w.busy_setAct c y
    rw [waits.not_inMotion, moving] at busy
    simp only [if_true, Bool.false_eq_true, if_false] at busy
    refine ⟨by omega, by rw [ActuatorDrive.setAct_queue, queue]; exact nodup, fun b m => ?_, fun _ => by omega, fun b p => ?_,
      fun b => ?_⟩
    · rw [ActuatorDrive.setAct_queue, queue] at m
      have neC : b ≠ c := fun e => fresh (e ▸ m)
      have old : b ∈ d.queue := by rw [queued]; exact List.mem_cons_of_mem _ m
      rw [ActuatorDrive.act_setAct, if_neg neC, acts, others b (fun e => out (e ▸ old))]
      exact h.waiting b old
    · have neC : b ≠ c := fun e => by rw [e, h.present_of_waiting inQueue] at p; cases p
      rw [ActuatorDrive.act_setAct, if_neg neC, acts, others b (absent b p), ActuatorDrive.setAct_queue, queue]
      refine ⟨(h.absent b p).1, fun m => (h.absent b p).2 ?_⟩
      rw [queued]; exact List.mem_cons_of_mem _ m
    · rw [ActuatorDrive.act_setAct]; split
      · exact fitY
      · rw [acts]; exact fits b

/-- A present actuator that can wait needs motion (R153). -/
theorem needMotion {a : ActuatorId} (waits : (d.act a).Waits) (pres : present a = true) :
    (d.needMotion a).Sound present low high := by
  rcases d.needMotion_cases a with ⟨free, e⟩ | ⟨_, _, e⟩ | ⟨full, fresh, e⟩ <;> rw [e]
  · obtain ⟨x, taken, moving, fit⟩ := d.takeChannel_starts a low high waits (h.fit a)
    have empty : d.queue = [] := by
      by_contra some
      have := h.freeTaken some
      omega
    have busy := d.busy_setAct a x
    rw [waits.not_inMotion, moving] at busy
    simp only [if_true, Bool.false_eq_true, if_false] at busy
    rw [taken]
    refine ⟨by omega, h.once, fun b m => ?_, fun q => absurd empty q, fun b p => ?_, fun b => ?_⟩
    · rw [ActuatorDrive.setAct_queue, empty] at m; cases m
    · have ne : b ≠ a := fun e => by rw [e, pres] at p; cases p
      rw [ActuatorDrive.act_setAct, if_neg ne]; exact h.absent b p
    · rw [ActuatorDrive.act_setAct]; split
      · exact fit
      · exact h.fit b
  · exact h
  · have held := h.channels
    refine ⟨held, List.nodup_append.2 ⟨h.once, List.nodup_singleton a, fun b m c n e => ?_⟩, fun b m => ?_, fun _ => ?_,
      fun b p => ⟨(h.absent b p).1, fun m => ?_⟩, h.fit⟩
    · rw [e, List.mem_singleton.1 n] at m; exact fresh m
    · rcases List.mem_append.1 m with m | m
      · exact h.waiting b m
      · rw [List.mem_singleton.1 m]; exact waits
    · rw [ActuatorDrive.busy_withQueue]; omega
    · rcases List.mem_append.1 m with m | m
      · exact (h.absent b p).2 m
      · rw [List.mem_singleton.1 m, pres] at p; cases p

/-- Actuators taken out of the queue while every channel is held (R155). -/
theorem leaveQueue (p : ActuatorId → Bool) :
    ({ d with queue := d.queue.filter p } : ActuatorDrive).Sound present low high :=
  ⟨h.channels, h.once.filter p, fun b m => h.waiting b (List.mem_of_mem_filter m),
   fun q => h.freeTaken (fun e => q (by show d.queue.filter p = []; rw [e]; rfl)),
   fun b absent => ⟨(h.absent b absent).1, fun m => (h.absent b absent).2 (List.mem_of_mem_filter m)⟩, h.fit⟩

/-- An actuator in motion enters READY with its travel measured (R155). -/
theorem enterReady {a : ActuatorId} (moved : (d.act a).inMotion = true)
    (homed : ∃ T n, (d.act a).travel = some T ∧ (d.act a).step = some n ∧ low ≤ T ∧ T ≤ high) :
    (d.enterReady a).Sound present low high :=
  h.stop moved rfl ⟨by simp, fun _ => homed⟩

/-- An actuator in motion enters FAULTED (R157). -/
theorem enterFaulted {a : ActuatorId} (moved : (d.act a).inMotion = true) (reason : FaultReason) :
    (d.enterFaulted a reason).Sound present low high :=
  h.stop moved rfl (.faulted reason)

/-- A target handed to a present actuator (R155). -/
theorem handTarget (a : ActuatorId) (t : Nat) (pres : present a = true) : (d.handTarget a t).Sound present low high := by
  have set : (d.setAct a { d.act a with target := t }).Sound present low high :=
    h.setAct rfl ((h.fit a).congr rfl rfl rfl rfl) (h.waiting a) pres
  unfold ActuatorDrive.handTarget
  simp only
  split
  · exact set
  · exact set
  · exact set
  · rename_i ready
    split
    · split
      · exact set.leaveQueue _
      · exact set
    · split
      · exact h
      · exact set.needMotion (by rw [ActuatorDrive.act_setAct_same]; exact .inr ready) pres
  · rename_i moving
    split
    · refine set.enterReady ?_ ?_ <;> rw [ActuatorDrive.act_setAct_same]
      · simp [Actuator.inMotion, moving]
      · exact (h.fit a).homed (.inr moving)
    · exact set
  · exact h

/-- One step of an actuator (R152, R155). -/
theorem step {a : ActuatorId} (pres : present a = true) (limit : Nat) :
    (d.setAct a ((d.act a).drive limit)).Sound present low high := by
  rcases (d.act a).drive_cases limit with ⟨c, e⟩ | ⟨moving, n, p, e⟩ <;> rw [e]
  · exact h.setAct rfl ((h.fit a).congr rfl rfl rfl rfl) (h.waiting a) pres
  · obtain ⟨T, _, travel, _, limits⟩ := (h.fit a).homed (.inr moving)
    refine h.setAct rfl ⟨(h.fit a).phase, fun _ => ⟨T, n, travel, rfl, limits⟩⟩ (fun m => ?_) pres
    exact absurd (h.waiting a m) (Actuator.not_waits_of_inMotion (by simp [Actuator.inMotion, moving]))

/-- A homing ends with its travel measured (R152). -/
theorem homed {a : ActuatorId} (moved : (d.act a).inMotion = true) {T : Nat} (limits : low ≤ T ∧ T ≤ high) :
    (d.homed a T).Sound present low high := by
  have pres : present a = true := h.present_of_state (fun e => by simp [Actuator.inMotion, e] at moved)
  have out : a ∉ d.queue := fun m => Actuator.not_waits_of_inMotion moved (h.waiting a m)
  unfold ActuatorDrive.homed
  simp only
  split
  · unfold ActuatorDrive.enterReady
    rw [ActuatorDrive.act_setAct_same]
    have twice : ∀ x y : Actuator, (d.setAct a x).setAct a y = d.setAct a y := fun x y => by
      simp [ActuatorDrive.setAct, Vector.set_set]
    rw [twice]
    exact h.stop moved rfl ⟨by simp, fun _ => ⟨T, T, rfl, rfl, limits⟩⟩
  · refine h.setAct ?_ ⟨by simp, fun _ => ⟨T, T, rfl, rfl, limits⟩⟩ (fun m => absurd m out) pres
    rw [moved]; rfl

/-- A stall during a homing (R152). -/
theorem homingStall (a : ActuatorId) : (d.homingStall a low high).Sound present low high := by
  unfold ActuatorDrive.homingStall
  simp only
  have fit := h.fit a
  split
  case h_3 | h_4 | h_5 | h_6 => exact h
  all_goals
    rename_i state
    have moved : (d.act a).inMotion = true := by simp [Actuator.inMotion, state]
    have pres : present a = true := h.present_of_state (fun e => by simp [state] at e)
    split
    · refine h.setAct rfl ⟨by simp [state], fun r => ?_⟩ (h.waiting a) pres
      simp [state] at r
    · split
      · rename_i limits; exact h.homed moved limits
      · exact h.enterFaulted moved _
    · exact h

/-- No end stop found (R152). -/
theorem noStop (a : ActuatorId) : (d.noStop a).Sound present low high := by
  unfold ActuatorDrive.noStop
  simp only
  split
  · rename_i c; exact h.enterFaulted c.1 _
  · exact h

/-- The travel overrun (R152). -/
theorem travelOverrun (a : ActuatorId) : (d.travelOverrun a high).Sound present low high := by
  unfold ActuatorDrive.travelOverrun
  simp only
  split
  · rename_i c; exact h.enterFaulted c.1 _
  · exact h

/-- A stall in a move (R156). -/
theorem stall (a : ActuatorId) : (d.stall a).Sound present low high := by
  unfold ActuatorDrive.stall
  simp only
  split
  · rename_i c
    have moved : (d.act a).inMotion = true := by simp [Actuator.inMotion, c.1]
    split
    · exact h.enterFaulted moved _
    · refine h.setAct (by rw [moved]; rfl) (.beginHoming _ (.inr rfl)) (fun m => ?_)
        (h.present_of_state (fun e => by simp [c.1] at e))
      exact absurd (h.waiting a m) (Actuator.not_waits_of_inMotion moved)
  · exact h

/-- A completed move (R155). -/
theorem moveComplete (a : ActuatorId) : (d.moveComplete a).Sound present low high := by
  unfold ActuatorDrive.moveComplete
  simp only
  split
  · rename_i c
    exact h.enterReady (by simp [Actuator.inMotion, c.1]) ((h.fit a).homed (.inr c.1))
  · exact h

end ActuatorDrive.Sound

end Sys2Proof.Machine
end

section
/-! SUPPORT. What is kept by the few operations that the monitor, a conversion and a change of mode are made of is kept by
each of them (R121 to R127, R145, R184, R185). -/

namespace Sys2Proof.Machine

/-- The intake door's target at 0, handed to A0: what an entry into CONTAMINATED does ahead of its post (R125). -/
def State.shutIntake (s : State) : State :=
  State.handTarget { s with intake := { s.intake with doorTarget := 0 } } intakeDoor 0

theorem State.sealIntake_shut (s : State) : s.sealIntake = if s.serving = true then s.shutIntake.postSeal else s := rfl

/-- P is kept by the operations that the monitor's commands are made of. -/
structure MonitorKeeps (P : State → Prop) : Prop where
  air     : ∀ s m, P s → P (s.setAir m)
  notices : ∀ s new old, P s → P (s.airNotices new old)
  retire  : ∀ s n, P s → P (s.retire n)
  shut    : ∀ s, s.serving = true → P s → P s.shutIntake
  sealed  : ∀ s, s.serving = true → P s → P s.postSeal
  purged  : ∀ s, s.serving = true → P s → P s.postPurge

namespace MonitorKeeps

variable {P : State → Prop} (k : MonitorKeeps P) {s : State} (h : P s)
include k h

theorem sealIntake : P s.sealIntake := by
  rw [State.sealIntake_shut]
  split
  · rename_i serving
    exact k.sealed _ (by simpa [State.serving, State.shutIntake] using serving) (k.shut s serving h)
  · exact h

theorem setContamination (c : Contamination) : P (s.setContamination c) := by
  unfold State.setContamination
  split
  · exact h
  · have told := k.notices _ c s.air.contamination (k.air s { s.air with contamination := c } h)
    cases c with
    | clear => exact k.retire _ _ told
    | suspect => exact told
    | contaminated => exact k.sealIntake told

theorem startEvaluation : P s.startEvaluation := by
  unfold State.startEvaluation
  simp only
  (repeat' split)
  · exact k.setContamination (k.air _ _ h) _
  · exact k.air _ _ (k.air _ _ h)
  · exact k.setContamination (k.air _ _ h) _

theorem judgeAir : P s.judgeAir := by
  unfold State.judgeAir
  simp only
  split
  · split
    · exact k.setContamination h _
    · exact k.setContamination (k.air _ _ h) _
    · exact k.air _ _ h
  · split
    · split
      · exact k.setContamination (k.air _ _ h) _
      · exact h
      · exact k.air _ _ h
    · split
      · exact h
      · exact k.setContamination (k.air _ _ h) _
      · split
        · exact h
        · exact k.air _ _ h

theorem afterReading : P s.afterReading := by
  unfold State.afterReading
  (repeat' split)
  · exact k.judgeAir h
  · exact k.startEvaluation h
  · exact h

theorem onIntakeCo (a : Arrival) : P (s.onIntakeCo a) := by
  unfold State.onIntakeCo
  split
  · exact h
  · exact k.afterReading (k.air _ _ h)

theorem onIntakeParticulate (a : Arrival) : P (s.onIntakeParticulate a) := by
  unfold State.onIntakeParticulate
  split
  · exact h
  · exact k.afterReading (k.air _ _ h)

theorem raiseCabHigh : P s.raiseCabHigh := by
  unfold State.raiseCabHigh
  simp only
  split
  · exact k.purged _ (by assumption) (k.air _ _ h)
  · exact k.air _ _ h

theorem onCabCo (a : Arrival) : P (s.onCabCo a) := by
  unfold State.onCabCo
  simp only
  split
  · exact k.air _ _ h
  · split
    · exact h
    · split
      · split
        · exact k.raiseCabHigh h
        · exact h
      · split
        · split
          · exact h
          · exact k.air _ _ h
        · exact k.air _ _ h

theorem dwellExpiry : P s.dwellExpiry := by
  unfold State.dwellExpiry
  simp only
  split
  · exact h
  · split
    · exact k.setContamination (k.air _ _ h) _
    · exact k.air _ _ h

theorem clearHoldExpiry : P s.clearHoldExpiry := by
  unfold State.clearHoldExpiry
  simp only
  split
  · exact h
  · split
    · exact k.setContamination (k.air _ _ h) _
    · exact k.air _ _ h

theorem cabClearExpiry : P s.cabClearExpiry := by
  unfold State.cabClearExpiry
  split
  · exact h
  · exact k.retire _ _ (k.air _ _ h)

/-- The internal posts of an entry into HOMING or RUN (R125, R127). -/
theorem monitorPosts (serving : s.serving = true) : P s.monitorPosts := by
  have purge : ∀ u : State, u.serving = true → P u → P (if u.air.cabHigh then u.postPurge else u) := fun u serves h => by
    split
    · exact k.purged u serves h
    · exact h
  unfold State.monitorPosts
  by_cases bad : s.air.contamination = .contaminated
  · simp only [if_pos bad]
    exact purge _ (by simpa [State.serving] using serving) (k.sealed s serving h)
  · simp only [if_neg bad]
    exact purge s serving h

/-- The PURGE posted anew after its expiry (R127). -/
theorem repostPurge (expired : Bool) : P (s.repostPurge expired) := by
  unfold State.repostPurge
  split
  · rename_i c
    simp only [Bool.and_eq_true] at c
    exact k.purged s c.2 h
  · exact h

/-- A conversion: the channel, and what its arrival does at its block (R145). -/
theorem convert (c : ChannelId) (raw : BitVec 12)
    (channel : ∀ (s : State) (ch : Channel), P s → P (s.setChannel c ch))
    (judge : ∀ (s : State) (l : Lockouts), P s → P { s with coolant := s.coolant.judge l })
    (voltage : ∀ (s : State) (v : Nat), P s → P { s with climate := { s.climate with voltageLevel := v } }) :
    P (s.convert c raw) := by
  have moved := channel s ((s.channel c).sample (filterConstant c)
    (if rawInRange raw then some (engineeringValue s.store.live c raw) else none)) h
  unfold State.convert State.deliver
  simp only
  split
  · exact judge _ _ moved
  · exact judge _ _ moved
  · exact k.onIntakeCo moved _
  · exact k.onIntakeParticulate moved _
  · exact k.onCabCo moved _
  · exact voltage _ _ moved
  · exact moved

end MonitorKeeps

/-! ## The two entries into a serving mode -/

section
variable {P : State → Prop} (k : MonitorKeeps P) {s : State}
include k

theorem MonitorKeeps.enterRun (h : P (s.setMode .run)) : P s.enterRun := k.monitorPosts h rfl

theorem MonitorKeeps.enterHoming (h : P (s.setMode .homing).startHoming) : P s.enterHoming := by
  refine k.monitorPosts h ?_
  simp [State.serving, State.setMode]

end

end Sys2Proof.Machine
end

section
/-! SUPPORT. The drive on the machine: each command keeps it sound (R149 to R157). -/

namespace Sys2Proof.Machine

namespace State.DriveSound

variable {s t : State} (h : s.DriveSound)
include h

theorem congr (drive : t.drive = s.drive) (live : t.store.live = s.store.live) : t.DriveSound := by
  have present : t.actPresent = s.actPresent := by funext a; simp only [State.actPresent, live]
  rw [State.driveSound_iff] at *
  rwa [drive, live, present]

omit h in
/-- An operation on the drive that keeps it sound. -/
theorem withDrive {d : ActuatorDrive} (sound : d.Sound s.actPresent s.store.live.travelLow s.store.live.travelHigh) :
    State.DriveSound { s with drive := d } :=
  (State.driveSound_iff _).2 sound

theorem sound : s.drive.Sound s.actPresent s.store.live.travelLow s.store.live.travelHigh := (State.driveSound_iff s).1 h

theorem handTarget (a : ActuatorId) (n : Nat) : (s.handTarget a n).DriveSound := by
  rcases s.handTarget_cases a n with ⟨_, e⟩ | ⟨present, e⟩ <;> rw [e]
  · exact h
  · exact State.DriveSound.withDrive (h.sound.handTarget a n present)

theorem handTargets (l : List (ActuatorId × Nat)) : (s.handTargets l).DriveSound := by
  unfold State.handTargets
  induction l generalizing s with
  | nil => exact h
  | cons p l ih => exact ih (h.handTarget p.1 p.2)

theorem startHoming : s.startHoming.DriveSound := by
  unfold State.startHoming
  generalize List.finRange 17 = l
  induction l generalizing s with
  | nil => exact h
  | cons a l ih =>
    refine ih (s := s.homeOne a) ?_
    unfold State.homeOne
    split
    · rename_i c
      exact State.DriveSound.withDrive (h.sound.needMotion (.inl c.2.1) c.1)
    · exact h

theorem allocate : s.allocate.DriveSound := by
  unfold State.allocate
  refine State.DriveSound.handTargets (h.congr ?_ ?_) _
  · exact foldl_keeps State.drive _ (fun s p => by simp) _ s
  · exact foldl_keeps (fun s : State => s.store.live) _ (fun s p => by simp) _ s

theorem handFan : s.handFan.DriveSound := h.congr rfl rfl

theorem computeIntake : s.computeIntake.DriveSound := by
  unfold State.computeIntake
  refine State.DriveSound.handFan (State.DriveSound.handTarget ?_ intakeDoor _)
  exact h.congr (by simp) (by simp)

theorem enterParked : s.enterParked.DriveSound := by
  unfold State.enterParked
  exact State.DriveSound.handTargets (h.congr (by simp) (by simp)) _

end State.DriveSound

/-- The monitor hands the intake door's target to the drive and touches it no further (R125). -/
theorem driveSound_monitorKeeps : MonitorKeeps State.DriveSound where
  air _ _ h := h.congr rfl rfl
  notices _ _ _ h := h.congr (by simp) (by simp)
  retire _ _ h := h.congr (by simp) (by simp)
  shut s _ h := State.DriveSound.handTarget (h.congr (t := { s with intake := { s.intake with doorTarget := 0 } }) rfl rfl) _ _
  sealed _ _ h := h.congr (by simp) (by simp)
  purged _ _ h := h.congr (by simp) (by simp)

namespace State.DriveSound

variable {s t : State} (h : s.DriveSound)
include h

theorem enterRun : s.enterRun.DriveSound := driveSound_monitorKeeps.enterRun (h.congr rfl rfl)

theorem enterHoming : s.enterHoming.DriveSound :=
  driveSound_monitorKeeps.enterHoming (State.DriveSound.startHoming (h.congr rfl rfl))

theorem homingCheck : s.homingCheck.DriveSound :=
  s.homingCheck_keeps (fun _ h => h.enterRun) (fun _ h => h.enterParked) h

theorem debounceExpiry : s.debounceExpiry.DriveSound :=
  s.debounceExpiry_keeps (fun _ h => h.congr rfl rfl) (fun _ _ h => h.enterHoming) (fun _ h => h.enterRun)
    (fun _ h => h.enterParked) h

theorem convert (c : ChannelId) (raw : BitVec 12) : (s.convert c raw).DriveSound :=
  driveSound_monitorKeeps.convert h c raw (fun _ _ h => h.congr rfl rfl) (fun _ _ h => h.congr rfl rfl)
    (fun _ _ h => h.congr rfl rfl)

/-- An event of a present actuator (R152 to R156). -/
theorem actuatorEvent {c : Instr} {a : ActuatorId} {f : ActuatorDrive → ActuatorDrive}
    (event : actuatorEvent s.store.live c = some (a, f)) : State.DriveSound { s with drive := f s.drive } := by
  refine State.DriveSound.withDrive ?_
  cases c <;> cases event
  case moveComplete => exact h.sound.moveComplete a
  case homingStall => exact h.sound.homingStall a
  case homingNoStop => exact h.sound.noStop a
  case homingTravelOverrun => exact h.sound.travelOverrun a
  case stall => exact h.sound.stall a

end State.DriveSound

/-- After a reset every actuator is UNHOMED and none waits (R151, R153). -/
theorem ActuatorDrive.Sound.afterReset (present : ActuatorId → Bool) (low high : Nat) :
    ActuatorDrive.Sound .afterReset present low high := by
  have fresh : ∀ a, (ActuatorDrive.afterReset.act a).state = .unhomed ∧ (ActuatorDrive.afterReset.act a).phase = .none := by
    decide
  refine ⟨by decide, List.nodup_nil, nofun, fun q => absurd rfl q, fun a _ => ⟨(fresh a).1, nofun⟩, fun a => ⟨?_, ?_⟩⟩ <;>
    simp [fresh a]

theorem State.reboot_driveSound (s : State) (good : Bool) : (s.reboot good).DriveSound := by
  have cleared : s.clearVolatile.DriveSound := (State.driveSound_iff _).2 (.afterReset _ _ _)
  have judged : s.clearVolatile.evaluateAtReset.DriveSound := by
    unfold State.evaluateAtReset
    split
    · exact driveSound_monitorKeeps.startEvaluation cleared
    · exact cleared
  unfold State.reboot State.startUp
  split
  · exact State.DriveSound.enterHoming (judged.congr rfl rfl)
  · exact judged.congr rfl rfl

/-- Every command keeps the drive sound. -/
theorem effect_driveSound (s t : State) (h : s.DriveSound) (e : Effect s t) : t.DriveSound := by
  cases e with
  | none => exact h
  | request row e =>
    have kept := exec_request_kept row e
    exact h.congr kept.drive kept.live
  | reset u good pins pending => exact u.reboot_driveSound good
  | allocated run => exact State.DriveSound.allocate (h.congr (by simp) (by simp))
  | converted c rest raw scan =>
    refine State.DriveSound.homingCheck (State.DriveSound.convert ?_ c raw)
    exact h.congr rfl rfl
  | dwelt => exact (driveSound_monitorKeeps.dwellExpiry h).homingCheck
  | cleared => exact driveSound_monitorKeeps.clearHoldExpiry h
  | cabCleared => exact driveSound_monitorKeeps.cabClearExpiry h
  | intakeComputed run =>
    refine State.DriveSound.computeIntake ?_
    exact h.congr rfl rfl
  | stepped a present => exact State.DriveSound.withDrive (h.sound.step present _)
  | driven event present => exact (h.actuatorEvent event).homingCheck
  | debounced => exact h.debounceExpiry.homingCheck
  | offline | received | recovered | lapse | duration | supplyJudged | doorChanged | boostEnded =>
    exact h.congr (by simp) (by simp)
  | sent | writeFailed | scanBegun | intakePeriod | guardExpired | minOnExpired | pressureChanged | holdExpired | overCurrent
  | pauseEnded | ignitionChanged => exact h.congr rfl rfl

/-- Settles O56: each operation changes an actuator within its state, stops one and hands its channel over, or starts one. -/
theorem stepsKeepTheDriveSound : Obligations.StepsKeepTheDriveSound :=
  step_keeps_of_effect (fun _ h => h.congr rfl rfl) (fun _ _ h => h.congr rfl rfl) effect_driveSound

end Sys2Proof.Machine
end

section
/-! SUPPORT. The monitor and the intake controller stay sound (R118 to R123, R126, R128, R131 to R134): the monitor alone, the
intake controller with its doors and its fan, and then each command. -/

namespace Sys2Proof.Machine

/-! ## The monitor -/

/-- The monitor between the update of a judged reading and what follows it: each timer in its state, and SUSPECT until
evaluation starts (R118 to R123, R126). -/
structure AirMonitor.Timed (m : AirMonitor) : Prop where
  dwell : m.dwellTimer.isSome = true → m.contamination = .suspect ∧ m.evaluating = true
  clearHold : m.clearHoldTimer.isSome = true → m.contamination = .contaminated ∧ m.evaluating = true
  suspect : m.evaluating = false → m.contamination = .suspect
  readings : m.evaluating = true → m.judgedCo.isSome = true ∧ m.judgedParticle.isSome = true
  cabClear : m.cabClearTimer.isSome = true → m.cabHigh = true

/-- The monitor between two commands: besides, evaluation has started where both readings are known (R120): the clauses of
`State.AirSound` that read the monitor alone. -/
structure AirMonitor.Sound (m : AirMonitor) : Prop extends m.Timed where
  waits : m.evaluating = false → m.judgedCo = none ∨ m.judgedParticle = none

namespace AirMonitor.Timed

variable {s : State} (h : s.air.Timed)
include h

/-- Before evaluation starts no timer runs. -/
theorem stopped (off : s.air.evaluating = false) : s.air.dwellTimer = none ∧ s.air.clearHoldTimer = none := by
  constructor
  · cases t : s.air.dwellTimer with
    | none => rfl
    | some ms => have := (h.dwell (by rw [t]; rfl)).2; rw [off] at this; cases this
  · cases t : s.air.clearHoldTimer with
    | none => rfl
    | some ms => have := (h.clearHold (by rw [t]; rfl)).2; rw [off] at this; cases this

/-- The start of evaluation (R120). -/
theorem startEvaluation (ready : s.evaluationReady = true) : s.startEvaluation.air.Sound := by
  simp only [State.evaluationReady, Bool.and_eq_true, Bool.not_eq_true'] at ready
  obtain ⟨⟨off, co⟩, particle⟩ := ready
  obtain ⟨dwell, clearHold⟩ := h.stopped off
  have suspect := h.suspect off
  have cab := h.cabClear
  unfold State.startEvaluation
  simp only
  (repeat' split) <;> constructor <;> (try constructor) <;>
    simp_all [State.setContamination_air, State.setAir]

/-- The judgement of the readings (R121). -/
theorem judgeAir (on : s.air.evaluating = true) : s.judgeAir.air.Sound := by
  obtain ⟨dwell, clearHold, _, readings, cab⟩ := h
  unfold State.judgeAir
  simp only
  (repeat' split) <;> constructor <;> (try constructor) <;>
    simp_all [State.setContamination_air, State.setAir]

/-- What follows an updated reading (R120, R121). -/
theorem afterReading : s.afterReading.air.Sound := by
  unfold State.afterReading
  split
  · exact h.judgeAir ‹_›
  · split
    · exact h.startEvaluation ‹_›
    · rename_i off notReady
      refine ⟨h, fun _ => ?_⟩
      simp only [State.evaluationReady, Bool.and_eq_true, Bool.not_eq_true', not_and, Bool.not_eq_true,
        Option.isSome_eq_false_iff, Option.isNone_iff_eq_none] at off notReady
      cases co : s.air.judgedCo with
      | none => exact .inl rfl
      | some v => exact .inr (notReady ⟨off, by rw [co]; rfl⟩)

end AirMonitor.Timed

/-- A reading taken from an arrival that is valid or faulted is known (R119). -/
theorem judgedReading_isSome (old : Option Int) (a : Arrival) (n : Nat) (known : ¬ (a.faulted = false ∧ a.value = none)) :
    (judgedReading old a n).isSome = true := by
  unfold judgedReading
  cases f : a.faulted
  · cases v : a.value with
    | none => exact absurd ⟨f, v⟩ known
    | some x => rfl
  · rfl

namespace AirMonitor.Sound

variable {s : State} (h : s.air.Sound)
include h

theorem onIntakeCo (a : Arrival) : (s.onIntakeCo a).air.Sound := by
  unfold State.onIntakeCo
  split
  · exact h
  · refine AirMonitor.Timed.afterReading ?_
    exact ⟨h.dwell, h.clearHold, h.suspect, fun on => ⟨judgedReading_isSome _ _ _ ‹_›, (h.readings on).2⟩, h.cabClear⟩

theorem onIntakeParticulate (a : Arrival) : (s.onIntakeParticulate a).air.Sound := by
  unfold State.onIntakeParticulate
  split
  · exact h
  · refine AirMonitor.Timed.afterReading ?_
    exact ⟨h.dwell, h.clearHold, h.suspect, fun on => ⟨(h.readings on).1, judgedReading_isSome _ _ _ ‹_›⟩, h.cabClear⟩

/-- The cab's side of the monitor written (R126). -/
theorem withCab {cabHigh : Bool} {cabClear : Timer} (cab : cabClear.isSome = true → cabHigh = true) :
    ({ s.air with cabHigh := cabHigh, cabClearTimer := cabClear } : AirMonitor).Sound :=
  ⟨⟨h.dwell, h.clearHold, h.suspect, h.readings, cab⟩, h.waits⟩

theorem onCabCo (a : Arrival) : (s.onCabCo a).air.Sound := by
  unfold State.onCabCo
  simp only
  split
  · exact h.withCab nofun
  · split
    · exact h
    · split
      · split
        · rw [s.raiseCabHigh_eq.1]; exact h.withCab fun _ => rfl
        · exact h
      · rename_i raised
        split
        · split
          · exact h
          · exact h.withCab fun _ => by simpa using raised
        · exact h.withCab nofun

theorem cabClearExpiry : s.cabClearExpiry.air.Sound := by
  unfold State.cabClearExpiry
  split
  · exact h
  · simp only [State.retire_frame, State.setAir]
    exact h.withCab nofun

/-- The dwell timer's expiry (R122). -/
theorem dwellExpiry : s.dwellExpiry.air.Sound := by
  unfold State.dwellExpiry
  split
  · exact h
  · rename_i ms timer
    obtain ⟨suspect, on⟩ := h.dwell (by rw [timer]; rfl)
    have stopped : s.air.clearHoldTimer.isSome = true → False := fun t => by
      have := (h.clearHold t).1; rw [suspect] at this; cases this
    simp only [if_pos suspect, State.setContamination_air, State.setAir]
    exact ⟨⟨nofun, fun t => (stopped t).elim, fun off => (by rw [on] at off; cases off), h.readings, h.cabClear⟩,
      fun off => (by rw [on] at off; cases off)⟩

/-- The clear-hold timer's expiry (R123). -/
theorem clearHoldExpiry : s.clearHoldExpiry.air.Sound := by
  unfold State.clearHoldExpiry
  split
  · exact h
  · rename_i ms timer
    obtain ⟨contaminated, on⟩ := h.clearHold (by rw [timer]; rfl)
    have stopped : s.air.dwellTimer.isSome = true → False := fun t => by
      have := (h.dwell t).1; rw [contaminated] at this; cases this
    simp only [if_pos contaminated, State.setContamination_air, State.setAir]
    exact ⟨⟨fun t => (stopped t).elim, nofun, fun off => (by rw [on] at off; cases off), h.readings, h.cabClear⟩,
      fun off => (by rw [on] at off; cases off)⟩

/-- A conversion (R145). -/
theorem convert (c : ChannelId) (raw : BitVec 12) : (s.convert c raw).air.Sound := by
  unfold State.convert State.deliver
  simp only
  split
  case h_3 => exact AirMonitor.Sound.onIntakeCo (s := State.setChannel s _ _) h _
  case h_4 => exact AirMonitor.Sound.onIntakeParticulate (s := State.setChannel s _ _) h _
  case h_5 => exact AirMonitor.Sound.onCabCo (s := State.setChannel s _ _) h _
  all_goals exact h

/-- Every running timer loses a millisecond (log 4). -/
theorem tick : s.tick.air.Sound := by
  obtain ⟨⟨dwell, clearHold, suspect, readings, cab⟩, waits⟩ := h
  refine ⟨⟨?_, ?_, suspect, readings, ?_⟩, waits⟩ <;> simpa [State.tick, tickTimer]

end AirMonitor.Sound

/-- The monitor after a reset (R118, R120). -/
theorem State.reboot_air_sound (s : State) (good : Bool) : (s.reboot good).air.Sound := by
  have timed : s.clearVolatile.air.Timed := by
    rw [State.clearVolatile_air]
    constructor <;> simp [AirMonitor.afterReset]
  have e : s.clearVolatile.afterReading = s.clearVolatile.evaluateAtReset := rfl
  rw [State.reboot, (State.startUp_frame _ good).2.2.1, ← e]
  exact timed.afterReading

/-! ## The intake controller -/

/-- The intake controller with its doors and its fan (R128, R131 to R134): the clauses of `State.AirSound` that read them. -/
structure State.IntakeSound (s : State) : Prop where
  boost : s.intake.boostTimer.isSome = true → s.pins.anyDoorOpen = false
  stepped : s.intake.steppedDuty.isSome = s.intake.pressurizing
  fan : s.fans.fanDuty = s.intake.outputDuty

theorem State.airSound_iff (s : State) : s.AirSound ↔ s.air.Sound ∧ s.IntakeSound :=
  ⟨fun ⟨dwell, clearHold, waiting, readings, cabClear, boost, stepped, fan⟩ =>
    ⟨⟨⟨dwell, clearHold, fun off => (waiting off).1, readings, cabClear⟩, fun off => (waiting off).2⟩,
      ⟨boost, stepped, fan⟩⟩,
   fun ⟨⟨⟨dwell, clearHold, suspect, readings, cabClear⟩, waits⟩, ⟨boost, stepped, fan⟩⟩ =>
    ⟨dwell, clearHold, fun off => ⟨suspect off, waits off⟩, readings, cabClear, boost, stepped, fan⟩⟩

namespace State.IntakeSound

variable {s t : State} (h : s.IntakeSound)
include h

theorem congr (intake : t.intake = { s.intake with doorTarget := t.intake.doorTarget, intakeTimer := t.intake.intakeTimer })
    (doors : t.pins.doorsOpen = s.pins.doorsOpen) (fans : t.fans.fanDuty = s.fans.fanDuty) : t.IntakeSound := by
  refine ⟨?_, ?_, ?_⟩
  · rw [intake, Pins.anyDoorOpen, doors]; exact h.boost
  · rw [intake]; exact h.stepped
  · rw [intake, fans]; exact h.fan

/-- An operation that leaves the intake controller, the pins and the fans as they are. -/
theorem of_eq (intake : t.intake = s.intake) (pins : t.pins = s.pins) (fans : t.fans = s.fans) : t.IntakeSound :=
  h.congr (by rw [intake]) (by rw [pins]) (by rw [fans])

theorem handFan : s.handFan.IntakeSound := ⟨h.boost, h.stepped, rfl⟩

theorem boostHand : s.boostHand.IntakeSound := by
  unfold State.boostHand
  split
  · exact h.handFan
  · exact h

end State.IntakeSound

/-- The monitor touches the intake controller's door target alone (R125). -/
theorem intakeSound_monitorKeeps : MonitorKeeps State.IntakeSound where
  air _ _ h := h.of_eq rfl rfl rfl
  notices _ _ _ h := h.of_eq (by simp) (by simp) (by simp)
  retire _ _ h := h.of_eq (by simp) (by simp) (by simp)
  shut _ _ h := h.congr (by simp [State.shutIntake]) (by simp [State.shutIntake]) (by simp [State.shutIntake])
  sealed _ _ h := h.of_eq (by simp) (by simp) (by simp)
  purged _ _ h := h.of_eq (by simp) (by simp) (by simp)

namespace State.IntakeSound

variable {s t : State} (h : s.IntakeSound)
include h

omit h in
theorem enterParked : s.enterParked.IntakeSound := by
  constructor <;> simp [IntakeController.park]

theorem computeIntake : s.computeIntake.IntakeSound := by
  unfold State.computeIntake
  refine State.IntakeSound.handFan ?_
  refine ⟨?_, ?_, ?_⟩ <;> simp only [State.handTarget_frame, State.judgeIntake_frame, State.pressurize]
  · split <;> exact h.boost
  · split <;> rfl
  · split <;> exact h.fan

/-- A door switch changes (R131, R134). -/
theorem doorChange (door : Fin 6) (isOpen : Bool) (changed : s.pins.doorsOpen[door.val] ≠ isOpen) :
    (s.doorChange door isOpen).IntakeSound := by
  unfold State.doorChange
  cases isOpen with
  | true =>
    have stopped : State.IntakeSound { s with
        pins := { s.pins with doorsOpen := s.pins.doorsOpen.set door.val true }
        intake := { s.intake with boostTimer := none } } := ⟨nofun, h.stepped, h.fan⟩
    simp only [if_true]
    split
    · exact stopped
    · exact stopped.boostHand
  | false =>
    have opened : s.pins.anyDoorOpen = true := by
      simp only [Pins.anyDoorOpen, List.any_eq_true, Vector.mem_toList_iff]
      exact ⟨_, Vector.getElem_mem door.isLt, by simpa using changed⟩
    have stopped : s.intake.boostTimer.isSome = true → False := fun t => by
      have := h.boost t; rw [opened] at this; cases this
    simp only [Bool.false_eq_true, if_false]
    split
    · exact ⟨fun t => (stopped t).elim, h.stepped, h.fan⟩
    · refine ⟨fun _ => ?_, h.stepped, h.fan⟩
      simpa using ‹¬ _ = true›

theorem tick : s.tick.IntakeSound :=
  ⟨by simpa [State.tick, tickTimer] using h.boost, h.stepped, h.fan⟩

theorem homingCheck : s.homingCheck.IntakeSound :=
  s.homingCheck_keeps (fun _ h => h.of_eq (by simp) (by simp) (by simp)) (fun _ _ => .enterParked) h

theorem debounceExpiry : s.debounceExpiry.IntakeSound :=
  s.debounceExpiry_keeps (fun _ h => h.of_eq rfl rfl rfl) (fun _ _ h => h.of_eq (by simp) (by simp) (by simp))
    (fun _ h => h.of_eq (by simp) (by simp) (by simp)) (fun _ _ => .enterParked) h

theorem convert (c : ChannelId) (raw : BitVec 12) : (s.convert c raw).IntakeSound :=
  intakeSound_monitorKeeps.convert h c raw (fun _ _ h => h.of_eq rfl rfl rfl) (fun _ _ h => h.of_eq rfl rfl rfl)
    (fun _ _ h => h.of_eq rfl rfl rfl)

end State.IntakeSound

theorem State.reboot_intakeSound (s : State) (good : Bool) : (s.reboot good).IntakeSound := by
  have cleared : s.clearVolatile.IntakeSound := ⟨nofun, rfl, rfl⟩
  have judged : s.clearVolatile.evaluateAtReset.IntakeSound := by
    unfold State.evaluateAtReset
    split
    · exact intakeSound_monitorKeeps.startEvaluation cleared
    · exact cleared
  exact judged.of_eq (by simp [State.reboot]) (by simp [State.reboot]) (by simp [State.reboot])

/-- An allocation leaves the filter fan's duty (R97). -/
@[simp] theorem State.allocate_fanDuty (s : State) : s.allocate.fans.fanDuty = s.fans.fanDuty := by
  unfold State.allocate
  simp only [State.handTargets_frame]
  exact foldl_keeps (fun s : State => s.fans.fanDuty) _ (fun s p => by simp) _ s

/-- Every command keeps the monitor and the intake controller sound. -/
theorem effect_airSound (s t : State) (h : s.AirSound) (e : Effect s t) : t.AirSound := by
  rw [State.airSound_iff] at *
  obtain ⟨air, intake⟩ := h
  cases e with
  | none => exact ⟨air, intake⟩
  | request row e =>
    have kept := exec_request_kept row e
    exact ⟨kept.air ▸ air, intake.of_eq kept.intake kept.pins kept.fans⟩
  | reset u good pins pending => exact ⟨u.reboot_air_sound good, u.reboot_intakeSound good⟩
  | converted c rest raw scan =>
    refine ⟨?_, State.IntakeSound.homingCheck (State.IntakeSound.convert ?_ c raw)⟩
    · rw [(State.homingCheck_frame _).1]
      exact AirMonitor.Sound.convert (s := { s with scanner := { s.scanner with scan := rest } }) air c raw
    · exact intake.of_eq rfl rfl rfl
  | dwelt =>
    refine ⟨?_, (intakeSound_monitorKeeps.dwellExpiry intake).homingCheck⟩
    rw [(State.homingCheck_frame _).1]
    exact air.dwellExpiry
  | cleared => exact ⟨air.clearHoldExpiry, intakeSound_monitorKeeps.clearHoldExpiry intake⟩
  | cabCleared => exact ⟨air.cabClearExpiry, intakeSound_monitorKeeps.cabClearExpiry intake⟩
  | intakeComputed run =>
    refine ⟨by simpa using air, State.IntakeSound.computeIntake ?_⟩
    exact intake.congr rfl rfl rfl
  | intakePeriod rests => exact ⟨air, intake.congr rfl rfl rfl⟩
  | doorChanged door isOpen changed => exact ⟨by simpa using air, intake.doorChange door isOpen changed⟩
  | boostEnded running =>
    refine ⟨by simpa using air, State.IntakeSound.boostHand ?_⟩
    exact ⟨nofun, intake.stepped, intake.fan⟩
  | driven event present =>
    refine ⟨by simpa using air, State.IntakeSound.homingCheck ?_⟩
    exact intake.of_eq rfl rfl rfl
  | debounced => exact ⟨by simpa using air, intake.debounceExpiry.homingCheck⟩
  | overCurrent asserted => exact ⟨air, intake.congr rfl rfl (by simp only; split <;> rfl)⟩
  | allocated run => exact ⟨by simpa using air, intake.congr (by simp) (by simp) (by simp)⟩
  | offline | received | recovered | lapse | duration | supplyJudged =>
    exact ⟨by simpa using air, intake.of_eq (by simp) (by simp) (by simp)⟩
  | sent | writeFailed | scanBegun | guardExpired | minOnExpired | pressureChanged | holdExpired
  | pauseEnded | stepped | ignitionChanged => exact ⟨air, intake.congr rfl rfl rfl⟩

/-- Settles O57: each operation of the monitor moves a timer with its state, and the fan follows the output duty. -/
theorem stepsKeepTheMonitorSound : Obligations.StepsKeepTheMonitorSound :=
  step_keeps_of_effect (fun s h => (s.tick.airSound_iff).2
      ⟨((s.airSound_iff).1 h).1.tick, ((s.airSound_iff).1 h).2.tick⟩)
    (fun _ _ h => ⟨h.dwell, h.clearHold, h.waiting, h.readings, h.cabClear, h.boost, h.stepped, h.fan⟩) effect_airSound

end Sys2Proof.Machine
end

section
/-! SUPPORT. The demand table under the operations that rewrite its records in place, retire one, and create one: what each
keeps of a sound table (R3, R4, R5, R7, R9, R25, R26, R45). -/

namespace Sys2Proof.Machine

/-! ## Records rewritten in place -/

/-- q is r rewritten in place: its key, its place in line, and the fields that its kind and target have (R1, R2, R9). -/
structure Record.Kin (q r : Record) : Prop where
  target : q.target = r.target
  station : q.station = r.station
  kind : q.kind = r.kind
  postSeq : q.postSeq = r.postSeq
  shaped : r.shaped → q.shaped

theorem Record.Kin.refl (r : Record) : r.Kin r := ⟨rfl, rfl, rfl, rfl, id⟩

theorem Record.Kin.trans {p q r : Record} (h : p.Kin q) (k : q.Kin r) : p.Kin r :=
  ⟨h.target.trans k.target, h.station.trans k.station, h.kind.trans k.kind, h.postSeq.trans k.postSeq, h.shaped ∘ k.shaped⟩

/-- A record rewritten in fields that its shape does not read. -/
theorem Record.Kin.of_fields {q r : Record} (target : q.target = r.target) (station : q.station = r.station)
    (kind : q.kind = r.kind) (postSeq : q.postSeq = r.postSeq) (level : q.level.isSome = r.level.isSome)
    (value : q.value.isSome = r.value.isSome) (flow : q.grantedFlow.isSome = r.grantedFlow.isSome)
    (grant : q.grantedLevel.isSome = r.grantedLevel.isSome) : q.Kin r :=
  ⟨target, station, kind, postSeq, fun h => by
    unfold Record.shaped at *
    rwa [target, kind, level, value, flow, grant]⟩

/-- The records of t are those of s, rewritten in place; the lists, the counter, the live layout and the quotas are the same. -/
structure State.Rewritten (t s : State) : Prop where
  records : ∀ n, t.record n = s.record n ∨ ∃ q r, t.record n = some q ∧ s.record n = some r ∧ q.Kin r
  lists : ∀ u, t.list u = s.list u
  counter : t.table.postSeq = s.table.postSeq
  live : t.store.live = s.store.live
  quotas : ∀ st, (t.entry st).quota = (s.entry st).quota

namespace State.Rewritten

variable {s t u : State}

theorem refl (s : State) : s.Rewritten s := ⟨fun _ => .inl rfl, fun _ => rfl, rfl, rfl, fun _ => rfl⟩

theorem trans (h : u.Rewritten t) (k : t.Rewritten s) : u.Rewritten s where
  records n := by
    rcases h.records n with e | ⟨p, q, hp, hq, kin⟩ <;> rcases k.records n with f | ⟨q', r, hq', hr, kin'⟩
    · exact .inl (e.trans f)
    · exact .inr ⟨q', r, e.trans hq', hr, kin'⟩
    · exact .inr ⟨p, q, hp, f ▸ hq, kin⟩
    · have e : q = q' := Option.some.inj (hq.symm.trans hq')
      exact .inr ⟨p, r, hp, hr, kin.trans (e ▸ kin')⟩
  lists x := (h.lists x).trans (k.lists x)
  counter := h.counter.trans k.counter
  live := h.live.trans k.live
  quotas st := (h.quotas st).trans (k.quotas st)

/-- What writes neither the table, nor a quota, nor the live layout. -/
theorem of_eq (table : t.table = s.table) (live : t.store.live = s.store.live)
    (quotas : ∀ st, (t.entry st).quota = (s.entry st).quota) : t.Rewritten s :=
  ⟨fun n => .inl (State.record_congr (congrArg DemandTable.slots table) n),
   fun u => State.list_congr (congrArg DemandTable.lists table) u, by rw [table], live, quotas⟩

theorem of_register (table : t.table = s.table) (live : t.store.live = s.store.live) (register : t.register = s.register) :
    t.Rewritten s :=
  .of_eq table live (fun st => by rw [State.entry_congr (congrArg StationRegister.entries register)])

/-- The record of one slot rewritten in place. -/
theorem setSlot {n : Slot} {q r : Record} (h : s.record n = some r) (kin : q.Kin r) : (s.setSlot n (some q)).Rewritten s where
  records m := by
    rw [State.record_setSlot]
    by_cases e : m = n
    · subst e; exact .inr ⟨q, r, if_pos rfl, h, kin⟩
    · exact .inl (if_neg e)
  lists _ := by simp
  counter := by simp [State.setSlot]
  live := by simp
  quotas _ := by simp

theorem handNotice (s : State) (st : Station) (c : Category) (d : Vector Byte 8) : (s.handNotice st c d).Rewritten s :=
  .of_eq (by simp) (by simp) (fun x => by rcases s.handNotice_entry st x c d with h | h <;> rw [h])

theorem stateNotice (s : State) (n : Slot) : (s.stateNotice n).Rewritten s := by
  unfold State.stateNotice; split
  · exact .refl s
  · exact .handNotice s _ _ _

theorem limitNotice (s : State) (n : Slot) : (s.limitNotice n).Rewritten s := by
  unfold State.limitNotice; split
  · exact .refl s
  · exact .handNotice s _ _ _

theorem foldl {α : Type} (f : State → α → State) (h : ∀ s a, (f s a).Rewritten s) (l : List α) (s : State) :
    (l.foldl f s).Rewritten s := by
  induction l generalizing s with
  | nil => exact .refl s
  | cons a l ih => exact (ih (f s a)).trans (h s a)

theorem airNotices (s : State) (new old : Contamination) : (s.airNotices new old).Rewritten s := by
  refine .foldl _ (fun s st => ?_) _ s
  split
  · exact .refl s
  · exact .handNotice s _ _ _

theorem setRecState (s : State) (n : Slot) (st : RecState) : (s.setRecState n st).Rewritten s := by
  unfold State.setRecState
  split
  · exact .refl s
  · split
    · exact .refl s
    · rename_i r h _
      refine (stateNotice _ n).trans (setSlot h ?_)
      exact .of_fields rfl rfl rfl rfl rfl rfl rfl rfl

theorem judgeIntake (s : State) (st : RecState) : (s.judgeIntake st).Rewritten s := by
  unfold State.judgeIntake
  split
  · exact .refl s
  · exact (foldl _ (fun s m => setRecState s m _) _ _).trans (setRecState s _ _)

theorem countDownAll (s : State) : s.countDownAll.Rewritten s where
  records n := by
    have e : s.countDownAll.record n = (s.record n).map Record.countDown := by simp [State.countDownAll, State.record]
    cases h : s.record n with
    | none => exact .inl (by rw [e, h, Option.map_none])
    | some r =>
      refine .inr ⟨r.countDown, r, by rw [e, h, Option.map_some], rfl, ?_⟩
      unfold Record.countDown
      split
      · exact .of_fields rfl rfl rfl rfl rfl (by simp) rfl rfl
      · exact .refl r
  lists u := State.list_congr (by simp [State.countDownAll]) u
  counter := by simp [State.countDownAll]
  live := by simp
  quotas st := by rw [State.entry_congr (t := s) (by simp)]

/-- A record of t comes from one of s. -/
theorem back (h : t.Rewritten s) {n : Slot} {q : Record} (e : t.record n = some q) :
    ∃ r, s.record n = some r ∧ q.Kin r := by
  rcases h.records n with f | ⟨q', r, hq, hr, kin⟩
  · exact ⟨q, f ▸ e, .refl q⟩
  · have : q = q' := Option.some.inj (e.symm.trans hq)
    exact ⟨r, hr, this ▸ kin⟩

/-- A record of s stands in t. -/
theorem forth (h : t.Rewritten s) {n : Slot} {r : Record} (e : s.record n = some r) :
    ∃ q, t.record n = some q ∧ q.Kin r := by
  rcases h.records n with f | ⟨q, r', hq, hr, kin⟩
  · exact ⟨r, f.trans e, .refl r⟩
  · have : r = r' := Option.some.inj (e.symm.trans hr)
    exact ⟨q, hq, this ▸ kin⟩

/-- A station's live records are counted the same. -/
theorem liveCount (h : t.Rewritten s) (st : Station) : t.liveCount st = s.liveCount st := by
  unfold State.liveCount
  refine List.countP_congr fun n _ => ?_
  rcases h.records n with e | ⟨q, r, hq, hr, kin⟩
  · rw [e]
  · rw [hq, hr]; simp [kin.station]

end State.Rewritten

/-- Records rewritten in place leave the table sound. -/
theorem State.TableSound.rewritten {s t : State} (h : s.TableSound) (k : t.Rewritten s) : t.TableSound where
  exact n u := by
    rw [k.lists, h.exact]
    constructor
    · rintro ⟨r, hr, target⟩
      obtain ⟨q, hq, kin⟩ := k.forth hr
      exact ⟨q, hq, kin.target.trans target⟩
    · rintro ⟨q, hq, target⟩
      obtain ⟨r, hr, kin⟩ := k.back hq
      exact ⟨r, hr, kin.target.symm.trans target⟩
  once u := by rw [k.lists]; exact h.once u
  ordered u := by
    rw [k.lists]
    refine (h.ordered u).imp fun {n m} order q p hq hp => ?_
    obtain ⟨r, hr, kin⟩ := k.back hq
    obtain ⟨o, ho, kin'⟩ := k.back hp
    have := order r o hr ho
    unfold Record.before at *
    rwa [kin.kind, kin'.kind, kin.postSeq, kin'.postSeq]
  keys n m q p hq hp target station kind := by
    obtain ⟨r, hr, kin⟩ := k.back hq
    obtain ⟨o, ho, kin'⟩ := k.back hp
    exact h.keys n m r o hr ho (by rw [← kin.target, ← kin'.target, target]) (by rw [← kin.station, ← kin'.station, station])
      (by rw [← kin.kind, ← kin'.kind, kind])
  allowed n q hq := by
    obtain ⟨r, hr, kin⟩ := k.back hq
    rw [kin.kind, kin.target, k.live]
    exact h.allowed n r hr
  fields n q hq := by
    obtain ⟨r, hr, kin⟩ := k.back hq
    exact kin.shaped (h.fields n r hr)
  internal n q hq := by
    obtain ⟨r, hr, kin⟩ := k.back hq
    rw [kin.station]
    exact h.internal n r hr
  slot38 q hq := by
    obtain ⟨r, hr, kin⟩ := k.back hq
    exact kin.kind.trans (h.slot38 r hr)
  slot39 q hq := by
    obtain ⟨r, hr, kin⟩ := k.back hq
    exact kin.kind.trans (h.slot39 r hr)
  sequence n q hq := by
    obtain ⟨r, hr, kin⟩ := k.back hq
    rw [kin.postSeq, k.counter]
    exact h.sequence n r hr
  quota st := by rw [k.liveCount, k.quotas, k.live]; exact h.quota st

/-! ## A retirement -/

/-- Counting over the slots after one is changed. -/
theorem countP_finRange_update {k : Nat} (n : Fin k) (p q : Fin k → Bool) (same : ∀ m, m ≠ n → p m = q m) :
    (List.finRange k).countP p + (if q n = true then 1 else 0) =
      (List.finRange k).countP q + (if p n = true then 1 else 0) := by
  have key : ∀ l : List (Fin k), l.Nodup → l.countP p + (if n ∈ l ∧ q n = true then 1 else 0) =
      l.countP q + (if n ∈ l ∧ p n = true then 1 else 0) := by
    intro l
    induction l with
    | nil => simp
    | cons a l ih =>
      intro nodup
      obtain ⟨fresh, nodup⟩ := List.nodup_cons.1 nodup
      have := ih nodup
      rw [List.countP_cons, List.countP_cons]
      by_cases e : a = n
      · subst e
        simp only [fresh, false_and, if_false, Nat.add_zero] at this
        simp only [List.mem_cons_self, true_and, this]
        omega
      · have mem : n ∈ a :: l ↔ n ∈ l := by simp [Ne.symm e]
        simp only [mem, same a e]
        omega
  simpa using key _ (List.nodup_finRange k)

/-- A station's live records after one slot is changed, and the others rewritten in place at most. -/
theorem State.liveCount_update {s t : State} (n : Slot)
    (same : ∀ m, m ≠ n → (t.record m).map Record.station = (s.record m).map Record.station) (st : Station) :
    t.liveCount st + (if (s.record n).any (fun r => r.station == st) = true then 1 else 0) =
      s.liveCount st + (if (t.record n).any (fun r => r.station == st) = true then 1 else 0) := by
  have owns : ∀ (u : State) (m : Slot), (u.record m).any (fun r => r.station == st) =
      ((u.record m).map Record.station).any (fun x => x == st) := fun u m => by cases u.record m <;> rfl
  unfold State.liveCount
  exact countP_finRange_update n (fun m => (t.record m).any (fun r : Record => r.station == st))
    (fun m => (s.record m).any (fun r : Record => r.station == st)) fun m ne => by rw [owns, owns, same m ne]

/-- A retirement leaves the table sound (R21, R27, R45). -/
theorem State.TableSound.retire {s : State} (h : s.TableSound) (n : Slot) : (s.retire n).TableSound := by
  cases e : s.record n with
  | none =>
    have same : s.retire n = s := by unfold State.retire; rw [e]
    rwa [same]
  | some r =>
    have old : ∀ m q, (s.retire n).record m = some q → m ≠ n ∧ s.record m = some q := fun m q hq => by
      rw [State.record_retire] at hq
      by_cases same : m = n
      · rw [if_pos same] at hq; cases hq
      · exact ⟨same, by rwa [if_neg same] at hq⟩
    have sub : ∀ t, ((s.retire n).list t).Sublist (s.list t) := fun t => by
      rw [s.list_retire n r e]
      split
      · exact List.filter_sublist
      · exact List.Sublist.refl _
    have counter : (s.retire n).table.postSeq = s.table.postSeq := (s.retire_rest n).postSeq
    refine ⟨fun m t => ?_, fun t => (sub t).nodup (h.once t), fun t => ?_, fun m m' q q' hq hq' => ?_, fun m q hq => ?_,
      fun m q hq => ?_, fun m q hq => ?_, fun q hq => ?_, fun q hq => ?_, fun m q hq => ?_, fun st => ?_⟩
    · rw [s.list_retire n r e, State.record_retire]
      by_cases target : t = r.target
      · subst target
        rw [if_pos rfl, List.mem_filter, h.exact]
        by_cases same : m = n <;> simp [same]
      · rw [if_neg target, h.exact]
        by_cases same : m = n
        · subst same
          simp only [e, Option.some.injEq, if_true, exists_eq_left', reduceCtorEq, false_and, exists_false, iff_false]
          exact fun k => target k.symm
        · rw [if_neg same]
    · exact ((h.ordered t).sublist (sub t)).imp fun {a b} order q q' hq hq' => order q q' (old a q hq).2 (old b q' hq').2
    · exact h.keys m m' q q' (old m q hq).2 (old m' q' hq').2
    · rw [(show (s.retire n).store = s.store by simp)]; exact h.allowed m q (old m q hq).2
    · exact h.fields m q (old m q hq).2
    · exact h.internal m q (old m q hq).2
    · exact h.slot38 q (old _ q hq).2
    · exact h.slot39 q (old _ q hq).2
    · rw [counter]; exact h.sequence m q (old m q hq).2
    · have count := State.liveCount_update (s := s) (t := s.retire n) n
        (fun m ne => by rw [State.record_retire, if_neg ne]) st
      have total := h.quota st
      rw [e, State.record_retire, if_pos rfl] at count
      rw [s.entry_retire n r e, (show (s.retire n).store = s.store by simp)]
      by_cases same : st = r.station
      · subst same
        simp at count ⊢
        omega
      · have other : (r.station == st) = false := by simpa using fun k => same k.symm
        simp [other] at count
        rw [if_neg same, count]
        exact total

end Sys2Proof.Machine
end

section
/-! SUPPORT. The insertion of a new record (R26) and its creation (R7, R31, R34, R45), and what a creation keeps of a sound
table. -/

namespace Sys2Proof.Machine

/-! ## The place of a new record -/

/-- The list is cut after the last entry that satisfies p, and the new one stands at the cut (R26). -/
theorem insertAfterLast_cut (p : Slot → Bool) (n : Slot) (l : List Slot) : ∃ ahead behind, l = ahead ++ behind ∧
    insertAfterLast p n l = ahead ++ n :: behind ∧ (∀ m ∈ behind, p m = false) ∧
    (∀ m, ahead.getLast? = some m → p m = true) := by
  induction l with
  | nil => exact ⟨[], [], rfl, rfl, nofun, nofun⟩
  | cons y ys ih =>
    by_cases some : (y :: ys).any p = true
    · obtain ⟨ahead, behind, cut, place, later, last⟩ := ih
      refine ⟨y :: ahead, behind, by rw [cut]; rfl, ?_, later, fun m h => ?_⟩
      · rw [insertAfterLast, if_pos some, place]; rfl
      · cases ahead with
        | nil =>
          obtain rfl : y = m := by simpa using h
          have none : ys.any p = false := by
            rw [cut, List.nil_append, List.any_eq_false]
            exact fun m hm => by rw [later m hm]; exact Bool.false_ne_true
          simpa [none] using some
        | cons z zs => exact last m (by simpa using h)
    · refine ⟨[], y :: ys, rfl, ?_, fun m hm => ?_, nofun⟩
      · rw [insertAfterLast, if_neg some]; rfl
      · simp only [List.any_eq_true, not_exists, not_and, Bool.not_eq_true] at some
        exact some m hm

/-- What a creation of record r in the free slot n makes of s: the record with the next post sequence, in its place in its
list; the judged first record that it goes ahead of QUEUED, with its STATE notice; the quota one less (R7, R26, R31, R34,
R45). -/
structure State.Creates (t s : State) (n : Slot) (r : Record) : Prop where
  frame : t = { s with table := t.table, register := { s.register with entries := t.register.entries }, link := t.link }
  new : t.record n = some { r with postSeq := s.table.postSeq }
  old : ∀ m, m ≠ n → t.record m = (s.record m).map (fun q =>
    if (s.list r.target).head? = some m ∧ (s.list r.target).any (s.classAtMost r.kind.cls) = false ∧
      q.state.judgedFirst = true then { q with state := .queued } else q)
  list : t.list r.target = insertAfterLast (s.classAtMost r.kind.cls) n (s.list r.target)
  others : ∀ u, u ≠ r.target → t.list u = s.list u
  postSeq : t.table.postSeq = nextPostSeq s.table.postSeq
  timer : t.table.durationTimer = s.table.durationTimer
  notices : t.AfterNotices s (s.displacements r.target r.kind.cls)
  entries : ∀ st, t.entry st = { s.entry st with
    overrun := (t.entry st).overrun
    quota := if st = r.station then (s.entry st).quota - 1 else (s.entry st).quota }

/-- The state in which a creation inserts: the quota one less, the counter one more (R7, R45). -/
def State.numbered (s : State) (st : Station) : State :=
  let s' := s.setEntry st { s.entry st with quota := (s.entry st).quota - 1 }
  { s' with table := { s'.table with postSeq := nextPostSeq s.table.postSeq } }

theorem State.create_eq (s : State) (n : Slot) (r : Record) :
    s.create n r = (s.numbered r.station).insert n { r with postSeq := s.table.postSeq } := rfl

theorem State.numbered_same (s : State) (st : Station) : (s.numbered st).SameNotices s := by
  have h := s.setEntry_same st { s.entry st with quota := (s.entry st).quota - 1 } rfl rfl
  exact ⟨h.link, h.flags, h.masks⟩

/-- A state that differs from s in the table, the entries of the register and the link alone. -/
theorem State.eq_of_blocks {t s : State}
    (blocks : t.climate = s.climate ∧ t.coolant = s.coolant ∧ t.air = s.air ∧ t.intake = s.intake ∧ t.scanner = s.scanner ∧
      t.drive = s.drive ∧ t.fans = s.fans ∧ t.store = s.store ∧ t.modes = s.modes ∧ t.pins = s.pins ∧ t.pending = s.pending)
    (locks : t.register.locks = s.register.locks) (supply : t.register.supply = s.register.supply) :
    t = { s with table := t.table, register := { s.register with entries := t.register.entries }, link := t.link } := by
  obtain ⟨climate, coolant, air, intake, scanner, drive, fans, store, modes, pins, pending⟩ := blocks
  rcases t with ⟨_, ⟨_, _, _⟩, _, _, _, _, _, _, _, _, _, _, _, _⟩
  simp_all

/-- A PENDING record created in a free slot. -/
theorem State.create_creates (s : State) (n : Slot) (r : Record) (free : s.record n = none) (pending : r.state = .pending) :
    (s.create n r).Creates s n r := by
  rw [State.create_eq]
  have frame := State.insert_frame (s.numbered r.station) n { r with postSeq := s.table.postSeq }
  obtain ⟨new, old, list, postSeq, timer, entries, locks, supply, notices⟩ :=
    (s.numbered r.station).insert_after n { r with postSeq := s.table.postSeq } free pending
  generalize (s.numbered r.station).insert n { r with postSeq := s.table.postSeq } = t at *
  refine ⟨?_, new, old, (list _).trans (if_pos rfl), fun u ne => (list u).trans (if_neg ne), postSeq, timer,
    notices.congr_right (s.numbered_same _), fun st => ?_⟩
  · exact State.eq_of_blocks frame locks supply
  · rw [entries st]
    have e : (s.numbered r.station).entry st = (s.setEntry r.station { s.entry r.station with
      quota := (s.entry r.station).quota - 1 }).entry st := rfl
    rw [e, State.entry_setEntry]
    by_cases same : st = r.station
    · subst same; simp
    · simp [same]

/-! ## A creation in a sound table -/

/-- Record r can be created in slot n: the slot is free, no record has its key, its kind stands on its target, which is
present, and its station has quota left (R3, R4, R5, R8, R9, R45). -/
structure State.Fits (s : State) (n : Slot) (r : Record) : Prop where
  free : s.record n = none
  pending : r.state = .pending
  fresh : ∀ m q, s.record m = some q → q.target = r.target → q.station = r.station → q.kind ≠ r.kind
  allowed : r.kind.allowedOn r.target = true ∧ s.store.live.targetPresent r.target = true
  shaped : r.shaped
  internal : r.station = 0 ↔ 38 ≤ n.val
  slot38 : n = sealSlot → r.kind = .seal
  slot39 : n = purgeSlot → r.kind = .purge
  quota : (s.entry r.station).quota ≠ 0

namespace State.Creates

variable {s t : State} {n : Slot} {r : Record} (c : t.Creates s n r)
include c

/-- Every other record is rewritten in place. -/
theorem kin {m : Slot} (ne : m ≠ n) :
    t.record m = s.record m ∨ ∃ q p, t.record m = some q ∧ s.record m = some p ∧ q.Kin p := by
  rw [c.old m ne]
  cases e : s.record m with
  | none => exact .inl rfl
  | some p =>
    refine .inr ⟨_, p, rfl, rfl, ?_⟩
    dsimp only
    split
    · exact .of_fields rfl rfl rfl rfl rfl rfl rfl rfl
    · exact .refl p

/-- A record of t is the new one or comes from one of s. -/
theorem back {m : Slot} {q : Record} (e : t.record m = some q) :
    (m = n ∧ q = { r with postSeq := s.table.postSeq }) ∨ (m ≠ n ∧ ∃ p, s.record m = some p ∧ q.Kin p) := by
  by_cases same : m = n
  · rw [same, c.new] at e
    exact .inl ⟨same, (Option.some.inj e).symm⟩
  · rcases c.kin same with f | ⟨q', p, hq, hp, kin⟩
    · exact .inr ⟨same, q, f ▸ e, .refl q⟩
    · have : q = q' := Option.some.inj (e.symm.trans hq)
      exact .inr ⟨same, p, hp, this ▸ kin⟩

theorem live : t.store.live = s.store.live := by rw [c.frame]

end State.Creates

/-- In a sound table the entries up to the last one of a class or a lower one are all of that class or a lower one (R25). -/
theorem State.TableSound.ahead_atMost {s : State} (h : s.TableSound) (u : Target) (k : Nat) {ahead behind : List Slot}
    (cut : s.list u = ahead ++ behind) (last : ∀ m, ahead.getLast? = some m → s.classAtMost k m = true) {m : Slot}
    (mem : m ∈ ahead) {q : Record} (e : s.record m = some q) : q.kind.cls ≤ k := by
  have nonempty : ahead ≠ [] := List.ne_nil_of_mem mem
  have split := List.dropLast_append_getLast nonempty
  have top : s.classAtMost k (ahead.getLast nonempty) = true := last _ (List.getLast?_eq_some_getLast nonempty)
  rcases List.mem_append.1 (split.symm ▸ mem : m ∈ ahead.dropLast ++ [ahead.getLast nonempty]) with inner | final
  · have order := h.ordered u
    rw [cut, ← split, List.append_assoc] at order
    have before := (List.pairwise_append.1 order).2.2 m inner (ahead.getLast nonempty) (by simp)
    cases f : s.record (ahead.getLast nonempty) with
    | none => simp [State.classAtMost, f] at top
    | some p =>
      have bound : p.kind.cls ≤ k := by simpa [State.classAtMost, f] using top
      rcases before q p e f with less | ⟨same, _⟩
      · omega
      · omega
  · rw [List.mem_singleton.1 final] at e
    simpa [State.classAtMost, e] using top

/-- A creation leaves the table sound (R5, R7, R9, R25, R26, R45). -/
theorem State.TableSound.creates {s t : State} (h : s.TableSound) {n : Slot} {r : Record} (fits : s.Fits n r)
    (c : t.Creates s n r) : t.TableSound := by
  obtain ⟨ahead, behind, cut, place, later, last⟩ := insertAfterLast_cut (s.classAtMost r.kind.cls) n (s.list r.target)
  have list : t.list r.target = ahead ++ n :: behind := c.list.trans place
  have listed : ∀ u m, m ∈ s.list u → m ≠ n := fun u m hm e => by
    obtain ⟨q, hq, _⟩ := (h.exact m u).1 hm
    rw [e, fits.free] at hq; cases hq
  have mem : ∀ m u, m ∈ t.list u ↔ (m = n ∧ u = r.target) ∨ m ∈ s.list u := fun m u => by
    by_cases target : u = r.target
    · subst target
      rw [list, cut]
      simp only [List.mem_append, List.mem_cons, and_true]
      tauto
    · rw [c.others u target]; simp [target]
  have order : ∀ a b, a ≠ n → b ≠ n → s.inOrder a b → t.inOrder a b := fun a b ha hb before q q' hq hq' => by
    rcases c.back hq with ⟨e, _⟩ | ⟨_, p, hp, kin⟩
    · exact absurd e ha
    rcases c.back hq' with ⟨e, _⟩ | ⟨_, p', hp', kin'⟩
    · exact absurd e hb
    have := before p p' hp hp'
    unfold Record.before at *
    rwa [kin.kind, kin'.kind, kin.postSeq, kin'.postSeq]
  refine ⟨fun m u => ?_, fun u => ?_, fun u => ?_, fun m m' q q' hq hq' target station kind => ?_, fun m q hq => ?_,
    fun m q hq => ?_, fun m q hq => ?_, fun q hq => ?_, fun q hq => ?_, fun m q hq => ?_, fun st => ?_⟩
  · rw [mem, h.exact]
    constructor
    · rintro (⟨rfl, rfl⟩ | ⟨p, hp, target⟩)
      · exact ⟨_, c.new, rfl⟩
      · have ne : m ≠ n := fun e => by rw [e, fits.free] at hp; cases hp
        rcases c.kin ne with f | ⟨q, p', hq, hp', kin⟩
        · exact ⟨p, f.trans hp, target⟩
        · have : p = p' := Option.some.inj (hp.symm.trans hp')
          exact ⟨q, hq, kin.target.trans (this ▸ target)⟩
    · rintro ⟨q, hq, target⟩
      rcases c.back hq with ⟨e, rfl⟩ | ⟨_, p, hp, kin⟩
      · exact .inl ⟨e, target.symm⟩
      · exact .inr ⟨p, hp, kin.target.symm.trans target⟩
  · by_cases target : u = r.target
    · subst target
      have once := h.once r.target
      rw [cut] at once
      have fresh : n ∉ ahead ++ behind := fun m => listed r.target n (cut ▸ m) rfl
      rw [list, List.nodup_middle, List.nodup_cons]
      exact ⟨fresh, once⟩
    · rw [c.others u target]; exact h.once u
  · by_cases target : u = r.target
    · subst target
      have ordered := h.ordered r.target
      rw [cut] at ordered
      obtain ⟨inAhead, inBehind, across⟩ := List.pairwise_append.1 ordered
      have ne : ∀ m ∈ ahead ++ behind, m ≠ n := fun m hm => listed r.target m (cut ▸ hm)
      have neA : ∀ m ∈ ahead, m ≠ n := fun m hm => ne m (List.mem_append_left _ hm)
      have neB : ∀ m ∈ behind, m ≠ n := fun m hm => ne m (List.mem_append_right _ hm)
      rw [list, List.pairwise_append, List.pairwise_cons]
      refine ⟨inAhead.imp_of_mem fun {a b} ma mb => order a b (neA a ma) (neA b mb), ⟨fun b mb q q' hq hq' => ?_,
        inBehind.imp_of_mem fun {a b} ma mb => order a b (neB a ma) (neB b mb)⟩, fun a ma b mb => ?_⟩
      · rcases c.back hq with ⟨_, rfl⟩ | ⟨e, _⟩
        · rcases c.back hq' with ⟨e, _⟩ | ⟨_, p, hp, kin⟩
          · exact absurd e (neB b mb)
          · have above := later b mb
            simp only [State.classAtMost, hp, decide_eq_false_iff_not, not_le] at above
            exact .inl (by rw [kin.kind]; exact above)
        · exact absurd rfl e
      · rcases List.mem_cons.1 mb with rfl | mb
        · intro q q' hq hq'
          rcases c.back hq with ⟨e, _⟩ | ⟨_, p, hp, kin⟩
          · exact absurd e (neA a ma)
          rcases c.back hq' with ⟨_, rfl⟩ | ⟨e, _⟩
          · have below : p.kind.cls ≤ r.kind.cls := h.ahead_atMost r.target _ cut last ma hp
            have seq := h.sequence a p hp
            unfold Record.before
            rw [kin.kind, kin.postSeq]
            rcases Nat.lt_or_eq_of_le below with less | same
            · exact .inl less
            · exact .inr ⟨same, seq⟩
          · exact absurd rfl e
        · exact order a b (neA a ma) (neB b mb) (across a ma b mb)
    · rw [c.others u target]
      exact (h.ordered u).imp_of_mem fun {a b} ma mb => order a b (listed u a ma) (listed u b mb)
  · rcases c.back hq with ⟨rfl, rfl⟩ | ⟨_, p, hp, kin⟩ <;> rcases c.back hq' with ⟨rfl, rfl⟩ | ⟨_, p', hp', kin'⟩
    · rfl
    · exact absurd (kin'.kind.symm.trans kind.symm) (fits.fresh m' p' hp' (kin'.target.symm.trans target.symm)
        (kin'.station.symm.trans station.symm))
    · exact absurd (kin.kind.symm.trans kind) (fits.fresh m p hp (kin.target.symm.trans target)
        (kin.station.symm.trans station))
    · exact h.keys m m' p p' hp hp' (by rw [← kin.target, ← kin'.target, target])
        (by rw [← kin.station, ← kin'.station, station]) (by rw [← kin.kind, ← kin'.kind, kind])
  · rw [c.live]
    rcases c.back hq with ⟨_, rfl⟩ | ⟨_, p, hp, kin⟩
    · exact fits.allowed
    · rw [kin.kind, kin.target]; exact h.allowed m p hp
  · rcases c.back hq with ⟨_, rfl⟩ | ⟨_, p, hp, kin⟩
    · exact fits.shaped
    · exact kin.shaped (h.fields m p hp)
  · rcases c.back hq with ⟨rfl, rfl⟩ | ⟨_, p, hp, kin⟩
    · exact fits.internal
    · rw [kin.station]; exact h.internal m p hp
  · rcases c.back hq with ⟨e, rfl⟩ | ⟨_, p, hp, kin⟩
    · exact fits.slot38 e.symm
    · rw [kin.kind]; exact h.slot38 p hp
  · rcases c.back hq with ⟨e, rfl⟩ | ⟨_, p, hp, kin⟩
    · exact fits.slot39 e.symm
    · rw [kin.kind]; exact h.slot39 p hp
  · have grows : s.table.postSeq ≤ t.table.postSeq := by rw [c.postSeq]; unfold nextPostSeq; split <;> omega
    rcases c.back hq with ⟨_, rfl⟩ | ⟨_, p, hp, kin⟩
    · exact grows
    · rw [kin.postSeq]; exact (h.sequence m p hp).trans grows
  · have count := State.liveCount_update (s := s) (t := t) n (fun m ne => by
      rcases c.kin ne with f | ⟨q, p, hq, hp, kin⟩
      · rw [f]
      · rw [hq, hp, Option.map_some, Option.map_some, kin.station]) st
    have total := h.quota st
    have left := fits.quota
    rw [c.live, c.entries st]
    simp only [fits.free, c.new, Option.any_none, Option.any_some, Bool.false_eq_true, if_false] at count
    by_cases same : st = r.station
    · subst same
      simp at count ⊢
      omega
    · have other : ¬ r.station = st := fun e => same e.symm
      simp [other] at count
      rw [count, if_neg same]
      exact total

theorem State.TableSound.create {s : State} (h : s.TableSound) {n : Slot} {r : Record} (fits : s.Fits n r) :
    (s.create n r).TableSound :=
  h.creates fits (s.create_creates n r fits.free fits.pending)

end Sys2Proof.Machine
end

section
/-! SUPPORT. The demand table stays sound: the posts of the monitor, the retirement of a set, POST and WITHDRAW, an
allocation, and then each command. -/

namespace Sys2Proof.Machine

/-! ## The monitor's posts -/

/-- Station 0 has at most one live record besides the one whose slot is free (R5). -/
theorem State.TableSound.liveCount_zero {s : State} (h : s.TableSound) {n m : Slot} (free : s.record n = none)
    (two : ∀ x : Slot, 38 ≤ x.val → x = n ∨ x = m) : s.liveCount 0 ≤ 1 := by
  unfold State.liveCount
  calc (List.finRange 40).countP (fun x => (s.record x).any (fun r => r.station == 0))
      ≤ (List.finRange 40).countP (fun x => x == m) := by
        refine List.countP_mono_left fun x _ own => ?_
        cases e : s.record x with
        | none => simp [e] at own
        | some r =>
          have zero : r.station = 0 := by simpa [e] using own
          rcases two x ((h.internal x r e).1 zero) with rfl | rfl
          · rw [free] at e; cases e
          · exact beq_self_eq_true x
    _ ≤ 1 := List.nodup_iff_count_le_one.1 (List.nodup_finRange 40) m

/-- Station 0 has quota left while one of its slots is free (R42, R45). -/
theorem State.TableSound.quota_zero {s : State} (h : s.TableSound) {n m : Slot} (free : s.record n = none)
    (two : ∀ x : Slot, 38 ≤ x.val → x = n ∨ x = m) : (s.entry 0).quota ≠ 0 := by
  have count := h.liveCount_zero free two
  have total := h.quota 0
  have given : s.store.live.quotaOf 0 = 2 := rfl
  omega

theorem State.TableSound.fitsSeal {s : State} (h : s.TableSound) (free : s.record sealSlot = none) :
    s.Fits sealSlot (internalRecord .seal none) where
  free := free
  pending := rfl
  fresh m q hq _ station kind := by
    have high := (h.internal m q hq).1 station
    have last : m = purgeSlot := by
      have ne : m ≠ sealSlot := fun e => by rw [e, free] at hq; cases hq
      have : m.val ≠ 38 := fun e => ne (Fin.ext e)
      exact Fin.ext (by have := m.isLt; show m.val = 39; omega)
    rw [last] at hq
    rw [h.slot39 q hq] at kind
    cases kind
  allowed := ⟨rfl, rfl⟩
  shaped := by unfold Record.shaped; decide
  internal := by decide
  slot38 _ := rfl
  slot39 := by decide
  quota := h.quota_zero (m := purgeSlot) free fun x hx => by
    have := x.isLt
    rcases (by omega : x.val = 38 ∨ x.val = 39) with e | e
    · exact .inl (Fin.ext e)
    · exact .inr (Fin.ext e)

theorem State.TableSound.fitsPurge {s : State} (h : s.TableSound) (free : s.record purgeSlot = none) (v : Nat) :
    s.Fits purgeSlot (internalRecord .purge (some v)) where
  free := free
  pending := rfl
  fresh m q hq _ station kind := by
    have high := (h.internal m q hq).1 station
    have last : m = sealSlot := by
      have ne : m ≠ purgeSlot := fun e => by rw [e, free] at hq; cases hq
      have : m.val ≠ 39 := fun e => ne (Fin.ext e)
      exact Fin.ext (by have := m.isLt; show m.val = 38; omega)
    rw [last] at hq
    rw [h.slot38 q hq] at kind
    cases kind
  allowed := ⟨rfl, rfl⟩
  shaped := by simp [Record.shaped, internalRecord, intakeTarget]
  internal := by simp only [internalRecord]; decide
  slot38 e := absurd e (by decide)
  slot39 _ := rfl
  quota := h.quota_zero (m := sealSlot) free fun x hx => by
    have := x.isLt
    rcases (by omega : x.val = 38 ∨ x.val = 39) with e | e
    · exact .inr (Fin.ext e)
    · exact .inl (Fin.ext e)

theorem State.TableSound.postSeal {s : State} (h : s.TableSound) : s.postSeal.TableSound := by
  rw [State.postSeal, State.internalPost_eq, State.monitorPost]
  split
  · exact h.create (h.fitsSeal ‹_›)
  · exact h

theorem State.TableSound.postPurge {s : State} (h : s.TableSound) : s.postPurge.TableSound := by
  rw [State.postPurge, State.internalPost_eq, State.monitorPost]
  split
  · exact h.create (h.fitsPurge ‹_› _)
  · exact h

/-- The monitor's operations keep the table sound (R125, R127). -/
theorem tableSound_monitorKeeps : MonitorKeeps State.TableSound where
  air _ _ h := h.rewritten (.of_register rfl rfl rfl)
  notices s new old h := h.rewritten (.airNotices s new old)
  retire _ n h := h.retire n
  shut _ _ h := h.rewritten (.of_register (by simp [State.shutIntake]) (by simp [State.shutIntake]) (by simp [State.shutIntake]))
  sealed _ _ h := h.postSeal
  purged _ _ h := h.postPurge

/-! ## The retirement of a set -/

theorem State.TableSound.retireIf {s : State} (h : s.TableSound) (reason : Reason) (p : Record → Bool) (n : Slot) :
    (s.retireIf reason p n).TableSound := by
  unfold State.retireIf
  split
  · exact h
  · split
    · unfold State.retireNoticed
      split
      · exact h
      · exact (h.retire n).rewritten (.handNotice _ _ _ _)
    · exact h

theorem State.TableSound.retireAll {s : State} (h : s.TableSound) (reason : Reason) (p : Record → Bool) :
    (s.retireAll reason p).TableSound := by
  unfold State.retireAll
  generalize List.finRange 40 = l
  induction l generalizing s with
  | nil => exact h
  | cons n l ih => exact ih (h.retireIf reason p n)

/-! ## POST -/

/-- The checks of a POST are the statements' (R8). -/
theorem State.postChecks_eq_ok_iff (s : State) (f : RxFrame) (t : Target) (k : Kind) :
    s.postChecks f = .ok (t, k) ↔ s.PostPasses f t k := by
  constructor
  · intro e
    unfold State.postChecks at e
    simp only at e
    split at e
    · cases e
    rename_i mode
    split at e
    · cases e
    rename_i defined
    split at e
    · cases e
    rename_i u target
    split at e
    · cases e
    rename_i l kind
    split at e
    · cases e
    rename_i allowed
    split at e
    · cases e
    rename_i targetRight
    split at e
    · cases e
    rename_i kindRight
    have mode' : s.modes.mode = .homing ∨ s.modes.mode = .run := by
      cases m : s.modes.mode <;> simp_all
    split at e
    · rename_i holder lock
      split at e
      · rename_i own
        cases e
        exact ⟨mode', by simpa using defined, target, kind, by simpa using allowed, by simpa using targetRight,
          by simpa using kindRight, fun h eq => by rw [lock] at eq; cases eq; exact own⟩
      · cases e
    · rename_i lock
      cases e
      exact ⟨mode', by simpa using defined, target, kind, by simpa using allowed, by simpa using targetRight,
        by simpa using kindRight, fun h eq => by rw [lock] at eq; cases eq⟩
  · rintro ⟨mode, defined, target, kind, allowed, targetRight, kindRight, lock⟩
    have mode' : ¬ (s.modes.mode = .start ∨ s.modes.mode = .parked) := by
      rcases mode with m | m <;> rw [m] <;> decide
    unfold State.postChecks
    simp only [if_neg mode', defined, target, kind, allowed, targetRight, kindRight, Bool.true_eq_false, if_false]
    cases held : s.lockOf t with
    | none => rfl
    | some h => simp only [lock h held, if_true]

/-- What a post stores has the fields of its kind (R2, R12). -/
theorem clampPost_isSome (k : Kind) (most level value : Nat) :
    ((clampPost k most level value).level.isSome ↔ k = .defrost ∨ k = .rehab ∨ k = .comfort) ∧
    ((clampPost k most level value).value.isSome ↔ k ≠ .defrost ∧ k ≠ .seal) := by
  cases k <;> simp [clampPost]

/-- The slot that findKey finds holds a record with the key. -/
theorem State.findKey_some {s : State} {t : Target} {st : Station} {k : Kind} {n : Slot} (e : s.findKey t st k = some n) :
    ∃ r, s.record n = some r ∧ r.target = t ∧ r.station = st ∧ r.kind = k := by
  have found := List.find?_some e
  cases h : s.record n with
  | none => simp [h] at found
  | some r =>
    simp only [h, Bool.and_eq_true, beq_iff_eq] at found
    exact ⟨r, rfl, found.1.1, found.1.2, found.2⟩

/-- Where findKey finds nothing, no record has the key. -/
theorem State.findKey_none {s : State} {t : Target} {st : Station} {k : Kind} (e : s.findKey t st k = none) {n : Slot}
    {r : Record} (h : s.record n = some r) (target : r.target = t) (station : r.station = st) : r.kind ≠ k := fun kind => by
  have missed := List.find?_eq_none.1 e n (List.mem_finRange n)
  simp [h, target, station, kind] at missed

/-- The slot that freeExternal finds is free and external (R6). -/
theorem State.freeExternal_some {s : State} {n : Slot} (e : s.freeExternal = some n) :
    n.val < 38 ∧ s.record n = none := by
  have found := List.find?_some e
  simp only [Bool.and_eq_true, decide_eq_true_eq, Option.isNone_iff_eq_none] at found
  exact found

/-- Station 0 is not defined (R42). -/
theorem State.ne_zero_of_defined {s : State} {st : Station} (h : s.defined st = true) : st ≠ 0 := by
  rintro rfl
  exact absurd h (by simp [State.defined, Layout.defined, Layout.config, StationRow.undefined])

/-- An amended record has the shape of the one it replaces (R10, R13). -/
theorem Record.Kin.amended {r : Record} {k : Kind} (kind : r.kind = k) (most level value : Nat) :
    (r.amended (clampPost k most level value)).Kin r :=
  ⟨rfl, rfl, rfl, rfl, fun shape => by
    obtain ⟨hasLevel, hasValue⟩ := clampPost_isSome k most level value
    rw [← kind] at hasLevel hasValue
    exact ⟨kind ▸ hasLevel, kind ▸ hasValue, shape.2.2.1, shape.2.2.2⟩⟩

/-- The record of an accepted POST can be created (R8, R11). -/
theorem State.PostPasses.fits {s : State} {f : RxFrame} {t : Target} {k : Kind} (h : s.PostPasses f t k)
    (fresh : s.findKey t f.station k = none) (quota : (s.entry f.station).quota ≠ 0) {n : Slot}
    (free : s.freeExternal = some n) : s.Fits n (Record.posted t f.station k (s.postFields f k)) where
  free := (State.freeExternal_some free).2
  pending := rfl
  fresh _ _ hq target station := State.findKey_none fresh hq target station
  allowed := by
    refine ⟨h.allowed, ?_⟩
    have target := h.target
    simp only [Layout.presentTarget, Option.filter_eq_some_iff] at target
    exact target.2
  shaped := by
    obtain ⟨hasLevel, hasValue⟩ := clampPost_isSome k (s.config f.station).maxLevel (f.num 2) (f.num16 3)
    refine ⟨hasLevel, hasValue, ?_, ?_⟩ <;> simp only [Record.posted] <;> split <;> simp_all
  internal := by
    have low := (State.freeExternal_some free).1
    have defined := State.ne_zero_of_defined h.defined
    constructor
    · intro zero; exact absurd zero defined
    · intro high; omega
  slot38 e := by
    have low := (State.freeExternal_some free).1
    rw [e] at low
    exact absurd low (by decide)
  slot39 e := by
    have low := (State.freeExternal_some free).1
    rw [e] at low
    exact absurd low (by decide)
  quota := quota

/-- A POST keeps the table sound (R8 to R13). -/
theorem State.TableSound.servePost {s : State} (h : s.TableSound) (f : RxFrame) : (s.servePost f).1.TableSound := by
  unfold State.servePost
  cases checks : s.postChecks f with
  | error st => exact h
  | ok tk =>
    obtain ⟨t, k⟩ := tk
    have passes := (s.postChecks_eq_ok_iff f t k).1 checks
    cases found : s.findKey t f.station k with
    | some n =>
      obtain ⟨r, live, target, station, kind⟩ := State.findKey_some found
      simp only [found, live]
      exact h.rewritten (.setSlot live (.amended kind _ _ _))
    | none =>
      simp only [found]
      split
      · exact h
      · rename_i quota
        split
        · exact h
        · exact h.create (passes.fits found quota ‹_›)

/-! ## The other requests -/

theorem State.TableSound.serveWithdrawKey {s : State} (h : s.TableSound) (f : RxFrame) :
    (s.serveWithdrawKey f).1.TableSound := by
  unfold State.serveWithdrawKey
  split
  · exact h
  · split
    · exact h
    · split
      · exact h
      · exact h.retire _

theorem State.TableSound.serveWithdrawSlot {s : State} (h : s.TableSound) (f : RxFrame) :
    (s.serveWithdrawSlot f).1.TableSound := by
  unfold State.serveWithdrawSlot
  split
  · exact h
  · split
    · exact h
    · split
      · exact h
      · split
        · exact h
        · split
          · exact h.retire _
          · exact h

/-- An entry changed in other items than its quota. -/
theorem State.Rewritten.setEntry {s : State} (st : Station) (e : StationEntry) (quota : e.quota = (s.entry st).quota) :
    (s.setEntry st e).Rewritten s :=
  .of_eq (by simp) (by simp) fun x => by
    rw [State.entry_setEntry]
    split
    · rename_i same; rw [same, quota]
    · rfl

theorem State.serveRefresh_rewritten (s : State) (f : RxFrame) : (s.serveRefresh f).1.Rewritten s := by
  unfold State.serveRefresh
  split
  · exact .refl s
  · exact .setEntry _ _ rfl

theorem State.countFrame_rewritten (s : State) (st : Station) : (s.countFrame st).Rewritten s := .setEntry _ _ rfl

theorem State.beginTake_rewritten (s : State) (f : RxFrame) (rest : List RxFrame) (n : Nat) :
    (s.beginTake f rest n).Rewritten s := by
  have head : State.Rewritten { s with link := { s.link with rx := rest, reserved := n } } s := .of_register rfl rfl rfl
  unfold State.beginTake
  simp only
  split
  · exact (State.countFrame_rewritten _ _).trans head
  · exact head

theorem State.placeAnswer_rewritten (s : State) (f : RxFrame) (a : Answer) : (s.placeAnswer f a).Rewritten s := by
  have placed : ∀ (u : State) (l : Link), State.Rewritten { u with link := l } u := fun u l => .of_register rfl rfl rfl
  unfold State.placeAnswer
  simp only
  split
  · exact (placed _ _).trans (State.Rewritten.setEntry _ _ rfl)
  · exact placed _ _

@[simp] theorem State.serveLock_entries (s : State) (f : RxFrame) :
    (s.serveLock f).1.register.entries = s.register.entries := by
  simp only [State.serveLock]; (repeat' split) <;> rfl

@[simp] theorem State.serveUnlock_entries (s : State) (f : RxFrame) :
    (s.serveUnlock f).1.register.entries = s.register.entries := by
  simp only [State.serveUnlock]; (repeat' split) <;> rfl

@[simp] theorem State.serveSupply_entries (s : State) (f : RxFrame) :
    (s.serveSupply f).1.register.entries = s.register.entries := by
  simp only [State.serveSupply]; (repeat' split) <;> rfl

/-- The rows that write the table: POST and the two WITHDRAW. -/
def writesTable : Instr → Bool
  | .post | .withdrawByKey | .withdrawBySlot => true
  | _ => false

/-- Serving any other row leaves the table and the quotas as they are. -/
theorem requestRow_serve_rewritten {c : Instr} {row : RequestRow} (known : requestRow c = some row)
    (other : writesTable c = false) (s : State) (f : RxFrame) : (row.serve s f).1.Rewritten s := by
  cases c with
  | post | withdrawByKey | withdrawBySlot => cases other
  | refresh => cases known; exact s.serveRefresh_rewritten f
  | lock | unlock | supply =>
    cases known
    exact .of_eq (by simp) (by simp) fun st => by rw [State.entry_congr (t := s) (by simp)]
  | _ => cases known <;> exact .of_register (by simp) (by simp) (by simp)

/-- A request row keeps the table sound. -/
theorem requestRow_tableSound {c : Instr} {row : RequestRow} (known : requestRow c = some row) {s t : State}
    (h : s.TableSound) (e : exec c s = .next t) : t.TableSound := by
  rcases exec_request_cases known e with rfl | ⟨f, rest, _, _, _, rfl⟩
  · exact h
  · refine State.TableSound.rewritten ?_ (State.placeAnswer_rewritten _ f _)
    have begun := h.rewritten (s.beginTake_rewritten f rest (row.room s f))
    cases written : writesTable c with
    | false => exact begun.rewritten (requestRow_serve_rewritten known written _ f)
    | true =>
      cases c with
      | post => cases known; exact begun.servePost f
      | withdrawByKey => cases known; exact begun.serveWithdrawKey f
      | withdrawBySlot => cases known; exact begun.serveWithdrawSlot f
      | _ => cases written

/-! ## An allocation -/

/-- A record on a zone rewritten with grants (R2, R32, R81). -/
theorem Record.Kin.of_grants {q r : Record} (zone : r.target ≠ intakeTarget) (target : q.target = r.target)
    (station : q.station = r.station) (kind : q.kind = r.kind) (postSeq : q.postSeq = r.postSeq)
    (level : q.level = r.level) (value : q.value = r.value) (flow : q.grantedFlow.isSome = true)
    (grant : q.grantedLevel.isSome = true) : q.Kin r :=
  ⟨target, station, kind, postSeq, fun shape => by
    unfold Record.shaped at *
    rw [target, kind, level, value]
    exact ⟨shape.1, shape.2.1, iff_of_true flow zone, iff_of_true grant zone⟩⟩

theorem zoneTarget_ne_intake (z : Zone) : zoneTarget z ≠ intakeTarget := fun e => by
  have := congrArg Fin.val e
  have := z.isLt
  simp only [zoneTarget, intakeTarget] at *
  omega

theorem zoneTarget_inj {z y : Zone} (e : zoneTarget z = zoneTarget y) : z = y := Fin.ext (by simpa [zoneTarget] using e)

/-- A zone's demand is its governing record, where it has one (R71). -/
theorem State.demand_eq_record_iff (s : State) (z : Zone) (n : Slot) (r : Record) :
    s.demand z = .record n r ↔ (s.list (zoneTarget z)).head? = some n ∧ s.record n = some r := by
  unfold State.demand State.governing State.first
  cases head : (s.list (zoneTarget z)).head? with
  | none => simp only; split <;> simp
  | some m =>
    cases live : s.record m with
    | none =>
      simp only [live]
      constructor
      · split <;> intro e <;> cases e
      · rintro ⟨e, hr⟩; cases e; rw [live] at hr; cases hr
    | some q =>
      simp only [live, Demand.record.injEq, Option.some.injEq]
      constructor
      · rintro ⟨rfl, rfl⟩; exact ⟨rfl, live⟩
      · rintro ⟨rfl, hr⟩; rw [live] at hr; exact ⟨rfl, Option.some.inj hr⟩

/-- What an allocation does to the records, the zone lists being exact (R32, R81, R82): the hypotheses of `serveZones_after`
hold of the plans of one state. -/
theorem State.TableSound.serveZones {s : State} (h : s.TableSound) (g : Zone → Nat) :
    let zs := s.store.live.presentZones
    let t := zs.foldl (fun u z => u.serveZone z (s.plan z) (g z)) s
    t.Rewrites s (fun n => ∃ z ∈ zs, n ∈ s.list (zoneTarget z)) ∧
    (∀ z ∈ zs, ∀ n rest, s.list (zoneTarget z) = n :: rest →
      t.record n = (s.record n).map (s.writeServed z (s.plan z) (g z)) ∧
      ∀ m ∈ rest, t.record m = (s.record m).map (fun r => { r with
        state := .queued, grantedFlow := some 0, grantedLevel := some 0, flags := r.flags.cleared })) ∧
    t.AfterNotices s (zs.flatMap (fun z => t.zoneChanges s (s.list (zoneTarget z)))) := by
  refine s.serveZones_after s.plan g s.store.live.presentZones ?_ (fun z _ => h.once _) (fun z _ n m => ?_)
    (fun z _ n r => ?_)
  · have distinct : s.store.live.presentZones.Nodup := (List.nodup_finRange 8).filter _
    refine distinct.imp fun {z y} ne n mz my => ?_
    obtain ⟨r, hr, target⟩ := (h.exact n _).1 mz
    obtain ⟨q, hq, target'⟩ := (h.exact n _).1 my
    have : r = q := Option.some.inj (hr.symm.trans hq)
    exact ne (zoneTarget_inj (by rw [← target, ← target', this]))
  · obtain ⟨r, hr, _⟩ := (h.exact n _).1 m
    rw [hr]; rfl
  · exact s.demand_eq_record_iff z n r

/-- Stage 4 of an allocation rewrites the records of the zone lists (R32, R81). -/
theorem State.TableSound.serveZones_rewritten {s : State} (h : s.TableSound) (g : Zone → Nat) :
    (s.store.live.presentZones.foldl (fun u z => u.serveZone z (s.plan z) (g z)) s).Rewritten s := by
  obtain ⟨rewrites, records, _⟩ := h.serveZones g
  refine ⟨fun n => ?_, fun u => State.list_congr rewrites.lists u, rewrites.counter, ?_, fun st => by rw [rewrites.entries st]⟩
  · by_cases listed : ∃ z ∈ s.store.live.presentZones, n ∈ s.list (zoneTarget z)
    · obtain ⟨z, hz, hn⟩ := listed
      obtain ⟨r, hr, target⟩ := (h.exact n _).1 hn
      have zone : r.target ≠ intakeTarget := by rw [target]; exact zoneTarget_ne_intake z
      cases e : s.list (zoneTarget z) with
      | nil => rw [e] at hn; cases hn
      | cons m rest =>
        obtain ⟨first, others⟩ := records z hz m rest e
        rw [e] at hn
        rcases List.mem_cons.1 hn with rfl | hn
        · rw [hr, Option.map_some] at first
          exact .inr ⟨_, r, first, hr, .of_grants zone rfl rfl rfl rfl rfl rfl rfl rfl⟩
        · have behind := others n hn
          rw [hr, Option.map_some] at behind
          exact .inr ⟨_, r, behind, hr, .of_grants zone rfl rfl rfl rfl rfl rfl rfl rfl⟩
    · exact .inl (rewrites.records n listed)
  · exact foldl_keeps (fun u : State => u.store.live) _ (fun u z => by simp) _ s

/-- The records and the register after an allocation are those after its stage 4. -/
theorem State.allocate_served (s : State) : ∃ g : Zone → Nat,
    let t := s.store.live.presentZones.foldl (fun u z => u.serveZone z (s.plan z) (g z)) s
    s.allocate.table = t.table ∧ s.allocate.register = t.register ∧ s.allocate.link = t.link := by
  refine ⟨grantOf (shareFlow s.available (s.store.live.presentZones.map (fun z => (z, s.plan z)))), ?_⟩
  unfold State.allocate
  simp only [State.handTargets_frame, List.foldl_map, and_self]

theorem State.TableSound.allocate {s : State} (h : s.TableSound) : s.allocate.TableSound := by
  obtain ⟨g, table, register, _⟩ := s.allocate_served
  refine (h.rewritten (h.serveZones_rewritten g)).rewritten (.of_register table ?_ register)
  rw [(h.serveZones_rewritten g).live]
  simp

/-! ## The modes -/

theorem State.TableSound.enterParked {s : State} (h : s.TableSound) : s.enterParked.TableSound := by
  have parked : (s.setMode .parked).TableSound := h.rewritten (.of_register rfl rfl rfl)
  refine (parked.retireAll .parked (fun _ => true)).rewritten (.of_eq ?_ ?_ fun st => ?_)
  · simp [State.enterParked]
  · simp [State.enterParked]
  · rw [State.entry_congr (t := (s.setMode .parked).retireAll .parked (fun _ => true)) (by simp [State.enterParked])]

theorem State.TableSound.homingCheck {s : State} (h : s.TableSound) : s.homingCheck.TableSound :=
  s.homingCheck_keeps (fun _ h => tableSound_monitorKeeps.enterRun (h.rewritten (.of_register rfl rfl rfl)))
    (fun _ h => h.enterParked) h

theorem State.TableSound.enterHoming {s : State} (h : s.TableSound) : s.enterHoming.TableSound :=
  tableSound_monitorKeeps.enterHoming (h.rewritten
    (.of_register (by simp [State.setMode]) (by simp [State.setMode]) (by simp [State.setMode])))

theorem State.TableSound.debounceExpiry {s : State} (h : s.TableSound) : s.debounceExpiry.TableSound :=
  s.debounceExpiry_keeps (fun _ h => h.rewritten (.of_register rfl rfl rfl)) (fun _ _ h => h.enterHoming)
    (fun _ h => tableSound_monitorKeeps.enterRun (h.rewritten (.of_register rfl rfl rfl))) (fun _ h => h.enterParked) h

theorem State.TableSound.convert {s : State} (h : s.TableSound) (c : ChannelId) (raw : BitVec 12) :
    (s.convert c raw).TableSound :=
  tableSound_monitorKeeps.convert h c raw (fun _ _ h => h.rewritten (.of_register rfl rfl rfl))
    (fun _ _ h => h.rewritten (.of_register rfl rfl rfl)) (fun _ _ h => h.rewritten (.of_register rfl rfl rfl))

/-- After a reset the table is empty, and each station has its whole quota left (R24, R45). -/
theorem State.clearVolatile_tableSound (s : State) : s.clearVolatile.TableSound := by
  have empty : ∀ n, s.clearVolatile.record n = none := fun n => by simp [State.record]
  have lists : ∀ u, s.clearVolatile.list u = [] := fun u => by simp [State.list]
  have none : ∀ n r, s.clearVolatile.record n ≠ some r := fun n r e => by rw [empty] at e; cases e
  refine ⟨fun n u => ?_, fun u => ?_, fun u => ?_, fun n m r q e => absurd e (none n r), fun n r e => absurd e (none n r),
    fun n r e => absurd e (none n r), fun n r e => absurd e (none n r), fun r e => absurd e (none _ r),
    fun r e => absurd e (none _ r), fun n r e => absurd e (none n r), fun st => ?_⟩
  · simp [lists, empty]
  · rw [lists]; exact List.nodup_nil
  · rw [lists]; exact List.Pairwise.nil
  · simp [State.liveCount, empty, State.entry, StationRegister.afterReset, StationEntry.afterReset]

theorem State.reboot_tableSound (s : State) (good : Bool) : (s.reboot good).TableSound := by
  have judged : s.clearVolatile.evaluateAtReset.TableSound := by
    unfold State.evaluateAtReset
    split
    · exact tableSound_monitorKeeps.startEvaluation s.clearVolatile_tableSound
    · exact s.clearVolatile_tableSound
  unfold State.reboot State.startUp
  split
  · exact State.TableSound.enterHoming (judged.rewritten (.of_register rfl rfl rfl))
  · exact judged.rewritten (.of_register rfl rfl rfl)

/-! ## The commands -/

/-- An expiry of the duration timer (R19, R20, R127). -/
theorem State.TableSound.durationExpiry {s : State} (h : s.TableSound) : s.durationExpiry.TableSound :=
  tableSound_monitorKeeps.repostPurge ((h.rewritten (.countDownAll s)).retireAll _ _) _

/-- Entries changed in other items than their quotas. -/
theorem State.Rewritten.mapEntries (s : State) (g : Station → StationEntry → StationEntry)
    (quota : ∀ st e, (g st e).quota = e.quota) : (s.mapEntries g).Rewritten s :=
  .of_eq rfl rfl fun st => by simp [State.mapEntries, State.entry, quota]

theorem State.goOffline_rewritten (s : State) : s.goOffline.Rewritten s := by
  have linked : ∀ (u : State) (l : Link), State.Rewritten { u with link := l } u := fun u l => .of_register rfl rfl rfl
  exact (linked _ _).trans (.mapEntries s _ fun _ _ => rfl)

theorem State.TableSound.lapse {s : State} (h : s.TableSound) (st : Station) : (s.lapse st).TableSound := by
  unfold State.lapse
  split
  · have retired := h.retireAll .lapsed (fun r => r.station == st)
    generalize s.retireAll .lapsed (fun r => r.station == st) = u at retired
    have freed : (u.freeLocksOf st).Rewritten u := .of_eq rfl rfl fun x => rfl
    refine State.TableSound.rewritten (retired.rewritten freed) ?_
    exact .setEntry _ _ rfl
  · exact h
  · exact h

/-- An intake computation leaves the table, the register and the link as its judgement of the list does (R33). -/
theorem State.computeIntake_judged (s : State) : ∃ st, s.computeIntake.table = (s.judgeIntake st).table ∧
    s.computeIntake.register = (s.judgeIntake st).register ∧ s.computeIntake.link = (s.judgeIntake st).link :=
  ⟨intakeState (s.actFaulted intakeDoor) (capped s.air.contamination
    (doorRequest s.store.live ((s.governing intakeTarget).map (fun p => p.2)))), by simp [State.computeIntake]⟩

/-- An intake computation rewrites the intake's records (R33). -/
theorem State.computeIntake_rewritten (s : State) : s.computeIntake.Rewritten s := by
  obtain ⟨st, table, register, _⟩ := s.computeIntake_judged
  exact (State.Rewritten.of_register table (by simp) register).trans (.judgeIntake s st)

/-- Every command keeps the table sound. -/
theorem effect_tableSound (s t : State) (h : s.TableSound) (e : Effect s t) : t.TableSound := by
  cases e with
  | none => exact h
  | request row e => exact requestRow_tableSound row h e
  | reset u good pins pending => exact u.reboot_tableSound good
  | offline online stays => exact h.rewritten s.goOffline_rewritten
  | recovered off =>
    refine h.rewritten (State.Rewritten.trans (t := s.mapEntries (fun st e => { e with lapse := s.resumeLapse st e.lapse })) ?_
      (.mapEntries s _ fun _ _ => rfl))
    exact .of_register rfl rfl rfl
  | lapse st => exact h.lapse st
  | duration =>
    refine State.TableSound.durationExpiry (h.rewritten ?_)
    exact ⟨fun _ => .inl rfl, fun _ => rfl, rfl, rfl, fun _ => rfl⟩
  | allocated run => exact State.TableSound.allocate (h.rewritten (.of_register (by simp) (by simp) (by simp)))
  | converted c rest raw scan =>
    refine State.TableSound.homingCheck (State.TableSound.convert ?_ c raw)
    exact h.rewritten (.of_register rfl rfl rfl)
  | dwelt => exact (tableSound_monitorKeeps.dwellExpiry h).homingCheck
  | cleared => exact tableSound_monitorKeeps.clearHoldExpiry h
  | cabCleared => exact tableSound_monitorKeeps.cabClearExpiry h
  | intakeComputed run =>
    refine State.TableSound.rewritten ?_ (State.computeIntake_rewritten _)
    exact h.rewritten (.of_register rfl rfl rfl)
  | driven event present =>
    refine State.TableSound.homingCheck ?_
    exact h.rewritten (.of_register rfl rfl rfl)
  | debounced => exact h.debounceExpiry.homingCheck
  | received | supplyJudged | doorChanged | boostEnded =>
    exact h.rewritten (.of_register (by simp) (by simp) (by simp))
  | sent | writeFailed | scanBegun | intakePeriod | guardExpired | minOnExpired | pressureChanged | holdExpired
  | overCurrent | pauseEnded | stepped | ignitionChanged => exact h.rewritten (.of_register rfl rfl rfl)

/-- A millisecond changes timers alone (log 4). -/
theorem State.tick_rewritten (s : State) : s.tick.Rewritten s :=
  ⟨fun _ => .inl rfl, fun _ => rfl, rfl, rfl, fun st => by simp [State.tick, State.entry, StationEntry.tick]⟩

/-- Settles O53: a record is rewritten in place, retired, or created in its place in line. -/
theorem stepsKeepTheTableSound : Obligations.StepsKeepTheTableSound :=
  step_keeps_of_effect (fun s h => h.rewritten s.tick_rewritten) (fun _ _ h => h.rewritten (.of_register rfl rfl rfl))
    effect_tableSound

end Sys2Proof.Machine
end

section
/-! SUPPORT. What the operations keep of the register's entries but for their quotas and flags, and of the keys of the records;
and then that a contaminated cab stays sealed (R125, R129). -/

namespace Sys2Proof.Machine

/-! ## The entries of the register -/

/-- Of every entry nothing but the quota and the notice-overrun flag has changed. -/
structure State.EntriesKept (t s : State) : Prop where
  presence : ∀ st, (t.entry st).presence = (s.entry st).presence
  lapse : ∀ st, (t.entry st).lapse = (s.entry st).lapse
  mask : ∀ st, (t.entry st).mask = (s.entry st).mask

namespace State.EntriesKept

variable {s t u : State}

theorem refl (s : State) : s.EntriesKept s := ⟨fun _ => rfl, fun _ => rfl, fun _ => rfl⟩

theorem trans (h : u.EntriesKept t) (k : t.EntriesKept s) : u.EntriesKept s :=
  ⟨fun st => (h.presence st).trans (k.presence st), fun st => (h.lapse st).trans (k.lapse st),
   fun st => (h.mask st).trans (k.mask st)⟩

theorem of_register (h : t.register.entries = s.register.entries) : t.EntriesKept s := by
  refine ⟨fun st => ?_, fun st => ?_, fun st => ?_⟩ <;> rw [State.entry_congr h]

theorem of_entries (h : ∀ st, t.entry st = { s.entry st with
    overrun := (t.entry st).overrun, quota := (t.entry st).quota }) : t.EntriesKept s := by
  refine ⟨fun st => ?_, fun st => ?_, fun st => ?_⟩ <;> rw [h st]

theorem of_rewrites {p : Slot → Prop} (h : t.Rewrites s p) : t.EntriesKept s :=
  of_entries fun st => by rw [h.entries st]

theorem setEntry (s : State) (st : Station) (e : StationEntry) (presence : e.presence = (s.entry st).presence)
    (lapse : e.lapse = (s.entry st).lapse) (mask : e.mask = (s.entry st).mask) : (s.setEntry st e).EntriesKept s := by
  refine ⟨fun x => ?_, fun x => ?_, fun x => ?_⟩ <;> rw [State.entry_setEntry] <;> split <;> simp_all

theorem handNotice (s : State) (st : Station) (c : Category) (d : Vector Byte 8) : (s.handNotice st c d).EntriesKept s :=
  .of_rewrites (s.handNotice_rewrites st c d (fun _ => False))

theorem foldl {α : Type} (f : State → α → State) (h : ∀ s a, (f s a).EntriesKept s) (l : List α) (s : State) :
    (l.foldl f s).EntriesKept s := by
  induction l generalizing s with
  | nil => exact .refl s
  | cons a l ih => exact (ih (f s a)).trans (h s a)

theorem airNotices (s : State) (new old : Contamination) : (s.airNotices new old).EntriesKept s := by
  refine .foldl _ (fun s st => ?_) _ s
  split
  · exact .refl s
  · exact .handNotice s _ _ _

theorem retire (s : State) (n : Slot) : (s.retire n).EntriesKept s := by
  unfold State.retire
  split
  · exact .refl s
  · refine (setEntry _ _ _ ?_ ?_ ?_).trans (.of_register (by simp)) <;> simp

theorem retireIf (s : State) (reason : Reason) (p : Record → Bool) (n : Slot) : (s.retireIf reason p n).EntriesKept s := by
  unfold State.retireIf
  split
  · exact .refl s
  · split
    · unfold State.retireNoticed
      split
      · exact .refl s
      · exact (handNotice _ _ _ _).trans (retire s n)
    · exact .refl s

theorem retireAll (s : State) (reason : Reason) (p : Record → Bool) : (s.retireAll reason p).EntriesKept s :=
  .foldl _ (fun s n => retireIf s reason p n) _ s

theorem judgeIntake (s : State) (st : RecState) : (s.judgeIntake st).EntriesKept s := by
  unfold State.judgeIntake
  split
  · exact .refl s
  · exact (foldl _ (fun s m => of_rewrites (s.setRecState_after m _).1) _ _).trans (of_rewrites (s.setRecState_after _ _).1)

theorem creates {n : Slot} {r : Record} (c : t.Creates s n r) : t.EntriesKept s := .of_entries fun st => by
  rw [c.entries st]

theorem monitorPost (s : State) (n : Slot) (k : Kind) (v : Option Nat) : (s.monitorPost n k v).EntriesKept s := by
  unfold State.monitorPost
  split
  · exact .creates (s.create_creates n _ ‹_› rfl)
  · exact .refl s

theorem putServed (s : State) (n : Slot) (old new : Record) : (s.putServed n old new).EntriesKept s := by
  have set : (s.setSlot n (some new)).EntriesKept s := .of_rewrites (s.setSlot_rewrites n _)
  have limit : ∀ u : State, (u.limitNotice n).EntriesKept u := fun u => .of_rewrites (u.limitNotice_rewrites n (fun _ => False))
  have state : ∀ u : State, (u.stateNotice n).EntriesKept u := fun u => .of_rewrites (u.stateNotice_rewrites n (fun _ => False))
  unfold State.putServed
  (repeat' split)
  · exact set
  · exact (state _).trans set
  · exact (limit _).trans set
  · exact (state _).trans ((limit _).trans set)

theorem serveZone (s : State) (z : Zone) (p : ZonePlan) (g : Nat) : (s.serveZone z p g).EntriesKept s := by
  unfold State.serveZone
  refine (foldl _ (fun s n => of_rewrites (s.putBehind_after n).1) _ _).trans ?_
  split
  · exact (putServed _ _ _ _).trans (.of_register rfl)
  · exact .of_register rfl

theorem allocate (s : State) : s.allocate.EntriesKept s := by
  obtain ⟨g, _, register, _⟩ := s.allocate_served
  exact (of_register (congrArg StationRegister.entries register)).trans (foldl _ (fun s z => serveZone s z _ _) _ s)

theorem computeIntake (s : State) : s.computeIntake.EntriesKept s := by
  obtain ⟨st, _, register, _⟩ := s.computeIntake_judged
  exact (of_register (congrArg StationRegister.entries register)).trans (judgeIntake s st)

theorem enterParked (s : State) : s.enterParked.EntriesKept s :=
  ⟨fun st => (s.enterParked_enters.entries st).1, fun st => (s.enterParked_enters.entries st).2.1,
   fun st => (s.enterParked_enters.entries st).2.2.1⟩

end State.EntriesKept

/-! ## The keys of the records -/

/-- A record's key (R9). -/
def Record.key (r : Record) : Target × Station × Kind := (r.target, r.station, r.kind)

/-- The key of the record in a slot. -/
def State.keyAt (s : State) (n : Slot) : Option (Target × Station × Kind) := (s.record n).map Record.key

theorem Record.Kin.key {q r : Record} (h : q.Kin r) : q.key = r.key := by
  simp [Record.key, h.target, h.station, h.kind]

theorem State.Rewritten.keyAt {t s : State} (h : t.Rewritten s) (n : Slot) : t.keyAt n = s.keyAt n := by
  rcases h.records n with e | ⟨q, r, hq, hr, kin⟩
  · simp [State.keyAt, e]
  · simp [State.keyAt, hq, hr, kin.key]

theorem State.Creates.keyAt {t s : State} {n : Slot} {r : Record} (c : t.Creates s n r) {m : Slot} (ne : m ≠ n) :
    t.keyAt m = s.keyAt m := by
  rcases c.kin ne with e | ⟨q, r, hq, hr, kin⟩
  · simp [State.keyAt, e]
  · simp [State.keyAt, hq, hr, kin.key]

@[simp] theorem State.keyAt_retire (s : State) (n m : Slot) :
    (s.retire n).keyAt m = if m = n then none else s.keyAt m := by
  unfold State.keyAt
  rw [State.record_retire]
  split <;> rfl

@[simp] theorem State.keyAt_setSlot (s : State) (n m : Slot) (r : Record) :
    (s.setSlot n (some r)).keyAt m = if m = n then some r.key else s.keyAt m := by
  unfold State.keyAt
  rw [State.record_setSlot]
  split <;> rfl

theorem State.keyAt_congr {s t : State} (h : t.table.slots = s.table.slots) (n : Slot) : t.keyAt n = s.keyAt n := by
  unfold State.keyAt; rw [State.record_congr h]

theorem State.keyAt_putServed (s : State) (n : Slot) (old new : Record) (same : s.keyAt n = some new.key) (m : Slot) :
    (s.putServed n old new).keyAt m = s.keyAt m := by
  have set : (s.setSlot n (some new)).keyAt m = s.keyAt m := by
    rw [State.keyAt_setSlot]
    split
    · rename_i e; rw [e, same]
    · rfl
  have limit : ∀ u : State, (u.limitNotice n).keyAt m = u.keyAt m := fun u => by simp [State.keyAt]
  have state : ∀ u : State, (u.stateNotice n).keyAt m = u.keyAt m := fun u => by simp [State.keyAt]
  unfold State.putServed
  (repeat' split) <;> simp only [set, limit, state]

theorem State.keyAt_putBehind (s : State) (n m : Slot) : (s.putBehind n).keyAt m = s.keyAt m := by
  obtain ⟨rewrites, new, _⟩ := s.putBehind_after n
  by_cases e : m = n
  · subst e
    unfold State.keyAt
    rw [new]
    cases s.record m <;> rfl
  · unfold State.keyAt; rw [rewrites.records m e]

/-- Stage 4 for one zone keeps every key, where the plan's record has the key that its slot has. -/
theorem State.keyAt_serveZone (s : State) (z : Zone) (p : ZonePlan) (g : Nat)
    (same : ∀ n r, p.demand = .record n r → s.keyAt n = some r.key) (m : Slot) : (s.serveZone z p g).keyAt m = s.keyAt m := by
  unfold State.serveZone
  have behind : ∀ (l : List Slot) (u : State), (l.foldl State.putBehind u).keyAt m = u.keyAt m := fun l u =>
    foldl_keeps (fun u : State => u.keyAt m) _ (fun u n => u.keyAt_putBehind n m) l u
  simp only [behind]
  split
  · rename_i n r demand
    exact State.keyAt_putServed (s.setZone z _) n r (State.writeServed _ z p g r) (same n r demand) m
  · rfl

/-- An allocation keeps every key. -/
theorem State.keyAt_allocate (s : State) (m : Slot) : s.allocate.keyAt m = s.keyAt m := by
  obtain ⟨g, table, _, _⟩ := s.allocate_served
  rw [State.keyAt_congr (congrArg DemandTable.slots table)]
  have key : ∀ (l : List Zone) (u : State), (∀ n, u.keyAt n = s.keyAt n) →
      (l.foldl (fun u z => u.serveZone z (s.plan z) (g z)) u).keyAt m = s.keyAt m := by
    intro l
    induction l with
    | nil => exact fun u same => same m
    | cons z l ih =>
      intro u same
      refine ih _ fun n => ?_
      rw [State.keyAt_serveZone u z (s.plan z) (g z) (fun n r demand => ?_) n, same]
      rw [same]
      simp [State.keyAt, ((s.demand_eq_record_iff z n r).1 demand).2]
  exact key _ s fun _ => rfl

/-! ## A contaminated cab -/

/-- The cab between an event of the monitor and its post: all of `State.SealSound` but that slot 38 is live. -/
structure State.Shut (s : State) : Prop where
  door : s.modes.mode ≠ .run ∨ s.air.contamination = .contaminated → s.intake.doorTarget = 0
  slot38 : ∀ k, s.keyAt sealSlot = some k → k = (intakeTarget, 0, .seal)
  station0 : (s.entry 0).lapse = .stopped

theorem State.sealSound_iff (s : State) : s.SealSound ↔ s.Shut ∧
    (s.serving = true → s.air.contamination = .contaminated → (s.keyAt sealSlot).isSome = true) := by
  have live : (s.keyAt sealSlot).isSome = (s.record sealSlot).isSome := by simp [State.keyAt]
  rw [live]
  constructor
  · rintro ⟨posted, door, slot38, station0⟩
    refine ⟨⟨door, fun k e => ?_, station0⟩, posted⟩
    unfold State.keyAt at e
    cases h : s.record sealSlot with
    | none => rw [h] at e; cases e
    | some r =>
      obtain ⟨station, kind, target⟩ := slot38 r h
      rw [h] at e
      cases e
      simp [Record.key, station, kind, target]
  · rintro ⟨⟨door, slot38, station0⟩, posted⟩
    refine ⟨posted, door, fun r h => ?_, station0⟩
    have := slot38 r.key (by simp [State.keyAt, h])
    simp only [Record.key, Prod.mk.injEq] at this
    exact ⟨this.2.1, this.2.2, this.1⟩

theorem State.Shut.congr {s t : State} (h : s.Shut) (mode : t.modes.mode = s.modes.mode)
    (contamination : t.air.contamination = s.air.contamination) (door : t.intake.doorTarget = s.intake.doorTarget)
    (key : t.keyAt sealSlot = s.keyAt sealSlot) (entries : t.EntriesKept s) : t.Shut :=
  ⟨by rw [mode, contamination, door]; exact h.door, by rw [key]; exact h.slot38, (entries.lapse 0).trans h.station0⟩

theorem State.SealSound.congr {s t : State} (h : s.SealSound) (mode : t.modes.mode = s.modes.mode)
    (contamination : t.air.contamination = s.air.contamination) (door : t.intake.doorTarget = s.intake.doorTarget)
    (key : t.keyAt sealSlot = s.keyAt sealSlot) (entries : t.EntriesKept s) : t.SealSound := by
  rw [State.sealSound_iff] at *
  refine ⟨h.1.congr mode contamination door key entries, ?_⟩
  unfold State.serving at *
  rw [mode, contamination, key]
  exact h.2

/-! ## The monitor -/

/-- A post of SEAL leaves slot 38 live (R15). -/
theorem State.keyAt_postSeal (s : State) :
    (s.monitorPost 38 .seal none).keyAt sealSlot = some ((s.keyAt sealSlot).getD (intakeTarget, 0, .seal)) := by
  unfold State.monitorPost
  split
  · rename_i free
    have c := s.create_creates 38 (internalRecord .seal none) free rfl
    have live : s.keyAt sealSlot = none := by simp [State.keyAt, show s.record sealSlot = none from free]
    rw [live, State.keyAt, show (s.create 38 (internalRecord .seal none)).record sealSlot = _ from c.new]
    rfl
  · rename_i live
    obtain ⟨r, e⟩ := Option.ne_none_iff_exists'.1 live
    simp [State.keyAt, show s.record sealSlot = some r from e]

/-- A post of PURGE leaves slot 38 as it is. -/
theorem State.keyAt_postPurge (s : State) (v : Option Nat) :
    (s.monitorPost 39 .purge v).keyAt sealSlot = s.keyAt sealSlot := by
  unfold State.monitorPost
  split
  · exact (s.create_creates 39 _ ‹_› rfl).keyAt (by decide)
  · rfl

@[simp] theorem State.monitorPost_frame (s : State) (n : Slot) (k : Kind) (v : Option Nat) :
    (s.monitorPost n k v).modes = s.modes ∧ (s.monitorPost n k v).air = s.air ∧
    (s.monitorPost n k v).intake = s.intake ∧ (s.monitorPost n k v).store = s.store := by
  rw [← State.internalPost_eq]; simp

theorem State.SealSound.postPurge {s : State} (h : s.SealSound) (v : Option Nat) : (s.monitorPost 39 .purge v).SealSound :=
  h.congr (by simp) (by simp) (by simp) (s.keyAt_postPurge v) (.monitorPost s _ _ _)

/-- A post of SEAL seals a cab that is shut. -/
theorem State.Shut.postSeal {s : State} (h : s.Shut) : (s.monitorPost 38 .seal none).SealSound := by
  rw [State.sealSound_iff]
  refine ⟨⟨by simpa using h.door, fun k e => ?_, ((State.EntriesKept.monitorPost s _ _ _).lapse 0).trans h.station0⟩,
    fun _ _ => by rw [s.keyAt_postSeal]; rfl⟩
  rw [s.keyAt_postSeal] at e
  cases old : s.keyAt sealSlot with
  | none => rw [old] at e; exact (Option.some.inj e).symm
  | some k' => rw [old] at e; rw [← Option.some.inj e]; exact h.slot38 k' old

/-- The posts of an entry into HOMING or RUN seal a cab that is shut (R125). -/
theorem State.Shut.withInternalPosts {s : State} (h : s.Shut) : s.withInternalPosts.SealSound := by
  have sealed : (if s.air.contamination = .contaminated then s.monitorPost 38 .seal none else s).SealSound := by
    split
    · exact h.postSeal
    · exact (State.sealSound_iff s).2 ⟨h, fun _ bad => absurd bad ‹_›⟩
  unfold State.withInternalPosts
  simp only
  split
  · exact sealed.postPurge _
  · exact sealed

/-- A change of the contamination state keeps a contaminated cab sealed (R124, R125). -/
theorem State.SealSound.moves {s t : State} (h : s.SealSound) {new : Contamination} (m : t.ContaminationMoves s new) :
    t.SealSound := by
  obtain ⟨w, told, rfl⟩ := m
  obtain ⟨shut, posted⟩ := (State.sealSound_iff s).1 h
  have air : w.air.contamination = new := by rw [told.frame]
  have mode : w.modes = s.modes := by rw [told.frame]
  have intake : w.intake = s.intake := by rw [told.frame]
  have key : w.keyAt sealSlot = s.keyAt sealSlot := State.keyAt_congr (by rw [told.frame]) _
  have kept : w.EntriesKept s := .of_entries fun st => by rw [told.entries st]
  have rest : w.modes.mode ≠ .run → w.intake.doorTarget = 0 := fun ne => by
    rw [mode] at ne; rw [intake]; exact shut.door (.inl ne)
  have slot38 : ∀ k, w.keyAt sealSlot = some k → k = (intakeTarget, 0, .seal) := by rw [key]; exact shut.slot38
  have station0 : (w.entry 0).lapse = .stopped := (kept.lapse 0).trans shut.station0
  cases new with
  | clear =>
    show (w.retire sealSlot).SealSound
    refine (State.sealSound_iff _).2 ⟨⟨?_, ?_, ((State.EntriesKept.retire w sealSlot).lapse 0).trans station0⟩, ?_⟩
    · simpa [air] using rest
    · simp
    · simp [air]
  | suspect =>
    show w.SealSound
    exact (State.sealSound_iff _).2 ⟨⟨fun d => rest (d.elim id fun e => by rw [air] at e; cases e), slot38, station0⟩,
      fun _ bad => by rw [air] at bad; cases bad⟩
  | contaminated =>
    unfold State.contaminationEntry
    simp only
    split
    · exact State.Shut.postSeal ⟨fun _ => rfl, slot38, station0⟩
    · rename_i serving
      push Not at serving
      refine (State.sealSound_iff _).2 ⟨⟨fun _ => rest serving.2, slot38, station0⟩, fun serves => ?_⟩
      simp [State.serving, serving] at serves

/-- A judgement of the monitor keeps a contaminated cab sealed. -/
theorem State.SealSound.judged {s t : State} (h : s.SealSound) (j : t.Judged s) : t.SealSound := by
  by_cases same : t.air.contamination = s.air.contamination
  · exact h.congr (by rw [j.same same]) same (by rw [j.same same]) (by rw [j.same same]; rfl)
      (.of_register (by rw [j.same same]))
  · refine State.SealSound.moves ?_ (j.moves same)
    exact h.congr rfl rfl rfl rfl (.of_register rfl)

theorem State.SealSound.setAir {s : State} (h : s.SealSound) (m : AirMonitor)
    (same : m.contamination = s.air.contamination) : (s.setAir m).SealSound :=
  h.congr rfl same rfl rfl (.of_register rfl)

theorem State.SealSound.dwellExpiry {s : State} (h : s.SealSound) : s.dwellExpiry.SealSound := by
  unfold State.dwellExpiry
  split
  · exact h
  · simp only
    split
    · exact h.judged (.setContamination s _ _ rfl)
    · exact h.setAir _ rfl

theorem State.SealSound.clearHoldExpiry {s : State} (h : s.SealSound) : s.clearHoldExpiry.SealSound := by
  unfold State.clearHoldExpiry
  split
  · exact h
  · simp only
    split
    · exact h.judged (.setContamination s _ _ rfl)
    · exact h.setAir _ rfl

theorem State.SealSound.cabClearExpiry {s : State} (h : s.SealSound) : s.cabClearExpiry.SealSound := by
  unfold State.cabClearExpiry
  split
  · exact h
  · have lowered := h.setAir { s.air with cabHigh := false, cabClearTimer := none } rfl
    exact lowered.congr (by simp) (by simp) (by simp) (by rw [State.keyAt_retire]; exact if_neg (by decide)) (.retire _ _)

theorem State.SealSound.onCabCo {s : State} (h : s.SealSound) (a : Arrival) : (s.onCabCo a).SealSound := by
  obtain ⟨same, e⟩ := s.onCabCo_eq a
  have moved : State.SealSound { s with air := (s.onCabCo a).air } := h.congr rfl same rfl rfl (.of_register rfl)
  rw [e]
  split
  · exact moved.postPurge _
  · exact moved

theorem State.SealSound.convert {s : State} (h : s.SealSound) (c : ChannelId) (raw : BitVec 12) :
    (s.convert c raw).SealSound := by
  unfold State.convert State.deliver
  simp only
  have moved : ∀ ch, (s.setChannel c ch).SealSound := fun ch => h.congr rfl rfl rfl rfl (.of_register rfl)
  split
  case h_3 => exact (moved _).judged (State.onIntakeCo_judged _ _)
  case h_4 => exact (moved _).judged (State.onIntakeParticulate_judged _ _)
  case h_5 => exact (moved _).onCabCo _
  all_goals exact h.congr rfl rfl rfl rfl (.of_register rfl)

/-! ## The modes -/

theorem State.Shut.enterRun {s : State} (h : s.Shut) (rest : s.modes.mode ≠ .run) : s.enterRun.SealSound := by
  rw [State.enterRun, State.monitorPosts_eq]
  exact State.Shut.withInternalPosts ⟨fun _ => h.door (.inl rest), h.slot38, h.station0⟩

theorem State.Shut.enterHoming {s : State} (h : s.Shut) (rest : s.modes.mode ≠ .run) : s.enterHoming.SealSound := by
  rw [State.enterHoming, State.monitorPosts_eq]
  refine State.Shut.withInternalPosts (State.Shut.congr (s := s.setMode .homing) ?_ (by simp) (by simp) (by simp)
    (State.keyAt_congr (by simp) _) (.of_register (by simp)))
  exact ⟨fun _ => h.door (.inl rest), h.slot38, h.station0⟩

theorem State.Shut.enterParked {s : State} (h : s.Shut) : s.enterParked.SealSound := by
  have parked := s.enterParked_enters
  refine (State.sealSound_iff _).2 ⟨⟨fun _ => by rw [parked.intake], fun k e => ?_, ?_⟩, fun serving => ?_⟩
  · simp [State.keyAt, parked.records] at e
  · exact ((State.EntriesKept.enterParked s).lapse 0).trans h.station0
  · simp [State.serving] at serving

/-! ## The requests on the table -/

/-- All that a POST does to the state (R8 to R13): nothing, an amend, or a creation in an external slot. -/
theorem State.servePost_effect (s : State) (f : RxFrame) :
    (s.servePost f).1 = s ∨
    (∃ n r, s.record n = some r ∧ (s.servePost f).1 = s.setSlot n (some (r.amended (s.postFields f r.kind)))) ∨
    (∃ n t k, s.PostPasses f t k ∧ s.freeExternal = some n ∧
      (s.servePost f).1 = s.create n (Record.posted t f.station k (s.postFields f k))) := by
  unfold State.servePost
  cases checks : s.postChecks f with
  | error st => exact .inl rfl
  | ok tk =>
    obtain ⟨t, k⟩ := tk
    cases found : s.findKey t f.station k with
    | some n =>
      obtain ⟨r, live, _, _, rfl⟩ := State.findKey_some found
      simp only [found, live]
      exact .inr (.inl ⟨n, r, live, rfl⟩)
    | none =>
      simp only [found]
      split
      · exact .inl rfl
      · split
        · exact .inl rfl
        · exact .inr (.inr ⟨_, t, k, (s.postChecks_eq_ok_iff f t k).1 checks, ‹_›, rfl⟩)

/-- A gate that is open is for a defined station (R46). -/
theorem State.defined_of_gate {s : State} {f : RxFrame} (h : s.gate f = none) : s.defined f.station = true := by
  rcases s.gate_cases f with ⟨_, e⟩ | ⟨_, _, e⟩ | ⟨_, defined, _⟩
  · rw [e] at h; cases h
  · rw [e] at h; cases h
  · exact defined

/-- All that a WITHDRAW by key does to the state (R16). -/
theorem State.serveWithdrawKey_effect (s : State) (f : RxFrame) :
    (s.serveWithdrawKey f).1 = s ∨ ∃ n r, s.defined f.station = true ∧ s.record n = some r ∧ r.station = f.station ∧
      (s.serveWithdrawKey f).1 = s.retire n := by
  unfold State.serveWithdrawKey
  split
  · exact .inl rfl
  · rename_i gate
    split
    · exact .inl rfl
    · split
      · exact .inl rfl
      · rename_i n named
        unfold State.keyNamed at named
        split at named
        · obtain ⟨r, live, _, own, _⟩ := State.findKey_some named
          exact .inr ⟨n, r, State.defined_of_gate gate, live, own, rfl⟩
        · cases named

/-- All that a WITHDRAW by slot does to the state (R17). -/
theorem State.serveWithdrawSlot_effect (s : State) (f : RxFrame) :
    (s.serveWithdrawSlot f).1 = s ∨ ∃ n r, s.defined f.station = true ∧ s.record n = some r ∧ r.station = f.station ∧
      (s.serveWithdrawSlot f).1 = s.retire n := by
  unfold State.serveWithdrawSlot
  split
  · exact .inl rfl
  · rename_i gate
    split
    · exact .inl rfl
    · cases named : slotOf (f.num 2) with
      | none => exact .inl rfl
      | some n =>
        cases live : s.record n with
        | none => exact .inl (by simp only [live])
        | some r =>
          simp only [live]
          split
          · exact .inr ⟨n, r, State.defined_of_gate gate, live, ‹_›, rfl⟩
          · exact .inl rfl

/-- A request from a defined station keeps slot 38's key: it amends a record, creates one in an external slot, or retires one of
its own (R5, R6, R17, R42). -/
theorem requestRow_keyAt {c : Instr} {row : RequestRow} (known : requestRow c = some row) {s : State}
    (slot38 : ∀ k, s.keyAt sealSlot = some k → k = (intakeTarget, 0, .seal)) (f : RxFrame) :
    (row.serve s f).1.keyAt sealSlot = s.keyAt sealSlot := by
  have withdrawn : ∀ u : State, (u = s ∨ ∃ n r, s.defined f.station = true ∧ s.record n = some r ∧ r.station = f.station ∧
      u = s.retire n) → u.keyAt sealSlot = s.keyAt sealSlot := by
    rintro u (rfl | ⟨n, r, defined, live, own, rfl⟩)
    · rfl
    · refine (s.keyAt_retire n _).trans (if_neg fun e => ?_)
      have := slot38 r.key (by rw [e]; simp [State.keyAt, live])
      simp only [Record.key, Prod.mk.injEq] at this
      exact State.ne_zero_of_defined defined (own.symm.trans this.2.1)
  cases written : writesTable c with
  | false => exact (requestRow_serve_rewritten known written s f).keyAt _
  | true =>
    cases c with
    | post =>
      cases known
      rcases s.servePost_effect f with e | ⟨n, r, live, e⟩ | ⟨n, t, k, _, free, e⟩
      · exact congrArg (State.keyAt · sealSlot) e
      · refine (congrArg (State.keyAt · sealSlot) e).trans ?_
        exact (State.Rewritten.setSlot live (.amended rfl _ _ _)).keyAt _
      · obtain ⟨low, free⟩ := State.freeExternal_some free
        refine (congrArg (State.keyAt · sealSlot) e).trans ((s.create_creates _ _ free rfl).keyAt fun same => ?_)
        rw [← same] at low
        exact absurd low (by decide)
    | withdrawByKey => cases known; exact withdrawn _ (s.serveWithdrawKey_effect f)
    | withdrawBySlot => cases known; exact withdrawn _ (s.serveWithdrawSlot_effect f)
    | _ => cases written

/-- No request touches a lapse timer once its frame is counted (R47, R48). -/
theorem requestRow_lapse {c : Instr} {row : RequestRow} (known : requestRow c = some row) (s : State) (f : RxFrame)
    (st : Station) : ((row.serve s f).1.entry st).lapse = (s.entry st).lapse := by
  have withdrawn : ∀ u : State, (u = s ∨ ∃ n r, s.defined f.station = true ∧ s.record n = some r ∧ r.station = f.station ∧
      u = s.retire n) → (u.entry st).lapse = (s.entry st).lapse := by
    rintro u (rfl | ⟨n, r, _, _, _, rfl⟩)
    · rfl
    · exact (State.EntriesKept.retire s n).lapse st
  have quiet : ∀ u : State, u.register.entries = s.register.entries → (u.entry st).lapse = (s.entry st).lapse := fun u e => by
    rw [State.entry_congr e]
  cases c with
  | post =>
    cases known
    rcases s.servePost_effect f with e | ⟨n, r, live, e⟩ | ⟨n, t, k, _, free, e⟩
    · exact quiet _ (by rw [e])
    · exact quiet _ (by rw [e]; simp)
    · refine (congrArg (fun u : State => (u.entry st).lapse) e).trans ?_
      exact (State.EntriesKept.creates (s.create_creates _ _ (State.freeExternal_some free).2 rfl)).lapse st
  | withdrawByKey => cases known; exact withdrawn _ (s.serveWithdrawKey_effect f)
  | withdrawBySlot => cases known; exact withdrawn _ (s.serveWithdrawSlot_effect f)
  | refresh =>
    cases known
    simp only [State.serveRefresh]
    split
    · rfl
    · rw [State.entry_setEntry]
      split
      · rename_i same; rw [same]
      · rfl
  | _ => cases known <;> exact quiet _ (by simp)

/-- Counting a frame leaves station 0's lapse timer: it is not defined (R42, R47). -/
theorem State.beginTake_station0 (s : State) (f : RxFrame) (rest : List RxFrame) (n : Nat) :
    ((s.beginTake f rest n).entry 0).lapse = (s.entry 0).lapse := by
  unfold State.beginTake
  simp only
  split
  · rename_i counted
    have other : (0 : Station) ≠ f.station := fun e => State.ne_zero_of_defined counted.2 e.symm
    rw [State.countFrame, State.entry_setEntry, if_neg other]
    rfl
  · rfl

/-- Placing an answer writes a notice-overrun flag alone (R59). -/
theorem State.placeAnswer_entries (s : State) (f : RxFrame) (a : Answer) : (s.placeAnswer f a).EntriesKept s := by
  unfold State.placeAnswer
  simp only
  split
  · have cleared := State.EntriesKept.setEntry s f.station { s.entry f.station with overrun := false } rfl rfl rfl
    refine State.EntriesKept.trans ?_ cleared
    exact .of_register rfl
  · exact .of_register rfl

@[simp] theorem State.entry_mapEntries (s : State) (g : Station → StationEntry → StationEntry) (st : Station) :
    (s.mapEntries g).entry st = g st (s.entry st) := by simp [State.mapEntries, State.entry]

/-- Door boost leaves the door target (R131, R134). -/
@[simp] theorem State.boostHand_doorTarget (s : State) : s.boostHand.intake.doorTarget = s.intake.doorTarget := by
  unfold State.boostHand; split <;> rfl

@[simp] theorem State.doorChange_doorTarget (s : State) (door : Fin 6) (isOpen : Bool) :
    (s.doorChange door isOpen).intake.doorTarget = s.intake.doorTarget := by
  simp only [State.doorChange]; (repeat' split) <;> simp

/-- An entry after bus-off (R50, R58, R170). -/
theorem State.entry_goOffline (s : State) (st : Station) : s.goOffline.entry st = { s.entry st with
    overrun := (s.entry st).overrun || lostReport s.link.tx st, lapse := (s.entry st).lapse.hold } := by
  simp [State.goOffline, State.entry, State.mapEntries]

/-- An entry after the recovery from bus-off (R50, R170). -/
theorem State.entry_recovered (s : State) (l : Link) (st : Station) :
    ({ s.mapEntries (fun st e => { e with lapse := s.resumeLapse st e.lapse }) with link := l } : State).entry st =
      { s.entry st with lapse := s.resumeLapse st (s.entry st).lapse } := by
  simp [State.entry, State.mapEntries]

/-! ## The commands -/

/-- What `Shut` and the post read, kept by a command that keeps slot 38's key and station 0's timer. -/
theorem State.SealSound.of_quiet {s t : State} (h : s.SealSound) (mode : t.modes.mode = s.modes.mode)
    (contamination : t.air.contamination = s.air.contamination) (door : t.intake.doorTarget = s.intake.doorTarget)
    (key : t.keyAt sealSlot = s.keyAt sealSlot) (station0 : (t.entry 0).lapse = .stopped) : t.SealSound := by
  obtain ⟨shut, posted⟩ := (State.sealSound_iff s).1 h
  refine (State.sealSound_iff t).2 ⟨⟨by rw [mode, contamination, door]; exact shut.door, by rw [key]; exact shut.slot38,
    station0⟩, ?_⟩
  unfold State.serving at *
  rw [mode, contamination, key]
  exact posted

namespace State.SealSound

variable {s : State} (h : s.SealSound)
include h

theorem shut : s.Shut := ((State.sealSound_iff s).1 h).1

/-- A retirement of records among which SEAL's is not (R20, R22). -/
theorem retireAll (reason : Reason) (p : Record → Bool) (spared : ∀ r, s.record sealSlot = some r → p r = false) :
    (s.retireAll reason p).SealSound := by
  refine h.congr (by simp) (by simp) (by simp) ?_ (.retireAll s _ _)
  unfold State.keyAt
  rw [State.record_retireAll]
  cases live : s.record sealSlot with
  | none => rfl
  | some r => simp [Option.filter, spared r live]

theorem request {c : Instr} {row : RequestRow} (known : requestRow c = some row) {t : State} (e : exec c s = .next t) :
    t.SealSound := by
  have kept := exec_request_kept known e
  rcases exec_request_cases known e with rfl | ⟨f, rest, _, _, _, rfl⟩
  · exact h
  · have begun := (s.beginTake_rewritten f rest (row.room s f)).keyAt sealSlot
    refine h.of_quiet (by rw [kept.modes]) (by rw [kept.air]) (by rw [kept.intake]) ?_ ?_
    · rw [(State.placeAnswer_rewritten _ f _).keyAt, requestRow_keyAt known (by rw [begun]; exact h.shut.slot38), begun]
    · rw [(State.placeAnswer_entries _ f _).lapse, requestRow_lapse known, State.beginTake_station0]
      exact h.shut.station0

theorem lapse (st : Station) : (s.lapse st).SealSound := by
  unfold State.lapse
  split
  · rename_i ms running
    have other : st ≠ 0 := fun e => by rw [e, h.station0] at running; cases running
    have retired := h.retireAll .lapsed (fun r => r.station == st) fun r live => by
      simpa [(h.slot38 r live).1] using other.symm
    generalize s.retireAll .lapsed (fun r => r.station == st) = u at retired
    refine retired.of_quiet (by simp) (by simp) (by simp) (State.keyAt_congr (by simp) _) ?_
    rw [State.entry_setEntry, if_neg other.symm]
    exact retired.station0
  · exact h
  · exact h

theorem durationExpiry : s.durationExpiry.SealSound := by
  have counted : s.countDownAll.SealSound :=
    h.congr (by simp) (by simp) (by simp) ((State.Rewritten.countDownAll s).keyAt _) (.of_register (by simp))
  have retired := counted.retireAll .expired Record.ranOut fun r live => by
    simp [Record.ranOut, Record.counts, (counted.slot38 r live).2.1, Kind.timed]
  unfold State.durationExpiry State.repostPurge
  simp only
  split
  · rw [State.postPurge, State.internalPost_eq]
    exact retired.postPurge _
  · exact retired

theorem allocate : s.allocate.SealSound :=
  h.congr (by simp) (by simp) (by simp) (s.keyAt_allocate _) (.allocate s)

theorem computeIntake (run : s.modes.mode = .run) : s.computeIntake.SealSound := by
  have key := s.computeIntake_rewritten.keyAt sealSlot
  have mode : s.computeIntake.modes = s.modes := by simp
  have air : s.computeIntake.air = s.air := by simp
  refine (State.sealSound_iff _).2 ⟨⟨fun d => ?_, by rw [key]; exact h.shut.slot38,
    ((State.EntriesKept.computeIntake s).lapse 0).trans h.station0⟩, ?_⟩
  · rw [mode, air] at d
    have bad := d.resolve_left (fun ne => ne run)
    simp [State.computeIntake, State.handFan, bad, doorBound]
  · unfold State.serving
    rw [mode, air, key]
    exact ((State.sealSound_iff s).1 h).2

theorem homingCheck : s.homingCheck.SealSound := by
  unfold State.homingCheck
  split
  · rename_i complete
    split
    · exact h.shut.enterRun (by rw [complete.1]; decide)
    · exact h.shut.enterParked
  · exact h

theorem debounceExpiry : s.debounceExpiry.SealSound := by
  have taken : s.debounced.SealSound := h.congr rfl rfl rfl rfl (.of_register rfl)
  have parked : s.modes.mode = .parked → s.debounced.modes.mode ≠ .run := fun m => by
    show s.modes.mode ≠ .run
    rw [m]; decide
  rcases s.debounceExpiry_cases with e | e | ⟨_, e⟩ | ⟨m, e⟩ | ⟨m, e⟩ <;> rw [e]
  · exact h
  · exact taken
  · exact taken.shut.enterParked
  · exact taken.shut.enterRun (parked m)
  · exact taken.shut.enterHoming (parked m)

end State.SealSound

/-- After a reset the intake door stands at 0 and slot 38 is live where it must be (R118, R120, R125, R128). -/
theorem State.reboot_sealSound (s : State) (good : Bool) : (s.reboot good).SealSound := by
  have cleared : s.clearVolatile.SealSound := by
    have free : s.clearVolatile.keyAt sealSlot = none := by simp [State.keyAt, State.record]
    refine (State.sealSound_iff _).2 ⟨⟨fun _ => rfl, fun k e => (by rw [free] at e; cases e), ?_⟩, nofun⟩
    simp [State.entry, StationRegister.afterReset, StationEntry.afterReset]
  have judged : s.clearVolatile.afterReading.SealSound := cleared.judged (State.afterReading_judged _)
  have start : s.clearVolatile.afterReading.modes.mode = .start := by simp; rfl
  show (s.clearVolatile.afterReading.startUp good).SealSound
  generalize s.clearVolatile.afterReading = u at judged start
  unfold State.startUp
  split
  · refine State.Shut.enterHoming ?_ ?_
    · exact judged.shut.congr rfl rfl rfl rfl (.of_register rfl)
    · show u.modes.mode ≠ .run
      rw [start]; decide
  · exact judged.congr rfl rfl rfl rfl (.of_register rfl)

/-- Every command keeps a contaminated cab sealed. -/
theorem effect_sealSound (s t : State) (h : s.SealSound) (e : Effect s t) : t.SealSound := by
  cases e with
  | none => exact h
  | request row e => exact h.request row e
  | reset u good pins pending => exact u.reboot_sealSound good
  | offline online stays =>
    refine h.of_quiet (by simp) (by simp) (by simp) (s.goOffline_rewritten.keyAt _) ?_
    rw [State.entry_goOffline, h.station0]; rfl
  | recovered off =>
    refine h.of_quiet rfl rfl rfl rfl ?_
    rw [State.entry_recovered, h.station0]; rfl
  | lapse st => exact h.lapse st
  | duration =>
    refine State.SealSound.durationExpiry ?_
    exact h.congr rfl rfl rfl rfl (.of_register rfl)
  | allocated run =>
    refine State.SealSound.allocate (h.congr ?_ ?_ ?_ (State.keyAt_congr ?_ _) (.of_register ?_)) <;> simp
  | converted c rest raw scan =>
    refine State.SealSound.homingCheck (State.SealSound.convert ?_ c raw)
    exact h.congr rfl rfl rfl rfl (.of_register rfl)
  | dwelt => exact h.dwellExpiry.homingCheck
  | cleared => exact h.clearHoldExpiry
  | cabCleared => exact h.cabClearExpiry
  | intakeComputed run =>
    refine State.SealSound.computeIntake ?_ run
    exact h.congr rfl rfl rfl rfl (.of_register rfl)
  | driven event present =>
    refine State.SealSound.homingCheck ?_
    exact h.congr rfl rfl rfl rfl (.of_register rfl)
  | debounced => exact h.debounceExpiry.homingCheck
  | received | supplyJudged | doorChanged | boostEnded =>
    exact h.congr (by simp) (by simp) (by simp) (State.keyAt_congr (by simp) _) (.of_register (by simp))
  | sent | writeFailed | scanBegun | intakePeriod | guardExpired | minOnExpired | pressureChanged | holdExpired
  | overCurrent | pauseEnded | stepped | ignitionChanged => exact h.congr rfl rfl rfl rfl (.of_register rfl)

/-- Settles O58: slot 38 and the door follow every change of the contamination state and of the mode. -/
theorem stepsKeepAContaminatedCabSealed : Obligations.StepsKeepAContaminatedCabSealed :=
  step_keeps_of_effect
    (fun s h => h.of_quiet rfl rfl rfl rfl (by
      rw [show s.tick.entry 0 = (s.entry 0).tick by simp [State.tick, State.entry], StationEntry.tick, h.station0]; rfl))
    (fun _ _ h => h.congr rfl rfl rfl rfl (.of_register rfl)) effect_sealSound

end Sys2Proof.Machine
end

section
/-! SUPPORT. The plant stays at rest outside RUN (R84, R100, R115, R116, R135, R159, R161), and the table and the locks empty in
START and PARKED (R22, R24, R54). -/

namespace Sys2Proof.Machine

/-! ## The outputs at rest -/

/-- The outputs of the plant at rest: the clauses of `State.RestSound` but for the table and the locks. -/
structure State.Still (s : State) : Prop where
  clutch : s.coolant.clutch ≠ .on ∧ s.coolant.cooling = false ∧ s.coolant.valveOpen = false
  fans : s.fans.blowerDuty = 0 ∧ s.fans.fanDuty = 0 ∧ s.intake.outputDuty = 0
  climate : s.climate.blowerFlow = 0 ∧ s.climate.blowerDuty = 0 ∧
    (∀ z : Zone, s.climate.zones[z.val].grantedFlow = 0 ∧ s.climate.zones[z.val].outletTarget = 0)
  intake : s.intake.pressurizing = false

/-- No record and no lock. -/
def State.Empty (s : State) : Prop := (∀ n, s.record n = none) ∧ ∀ t, s.lockOf t = none

theorem State.restSound_iff (s : State) : s.RestSound ↔ (s.modes.mode ≠ .run → s.Still) ∧
    (s.modes.mode = .start ∨ s.modes.mode = .parked → s.Empty) :=
  ⟨fun ⟨clutch, fans, climate, intake, empty⟩ => ⟨fun m => ⟨clutch m, fans m, climate m, intake m⟩, empty⟩,
   fun ⟨still, empty⟩ => ⟨fun m => (still m).clutch, fun m => (still m).fans, fun m => (still m).climate,
    fun m => (still m).intake, empty⟩⟩

/-- With no request kept the clutch is not engaged by any operation but a request (R111 to R114). -/
structure CoolantControl.Idle (c : CoolantControl) : Prop where
  clutch : c.clutch ≠ .on
  cooling : c.cooling = false
  valve : c.valveOpen = false

namespace CoolantControl.Idle

variable {c : CoolantControl} (h : c.Idle)
include h

theorem withTimers (g m p : Timer) (l : Lockouts) :
    ({ c with guardTimer := g, minOnTimer := m, pressureHold := p, lockouts := l } : CoolantControl).Idle :=
  ⟨h.clutch, h.cooling, h.valve⟩

theorem judge (l : Lockouts) : (c.judge l).Idle := by
  obtain ⟨clutch, cooling, valve⟩ := h
  unfold CoolantControl.judge CoolantControl.lockoutComes CoolantControl.lockoutsClear
  simp only
  (repeat' split) <;> constructor <;> simp_all

theorem guardExpiry : c.guardExpiry.Idle := by
  obtain ⟨clutch, cooling, valve⟩ := h
  unfold CoolantControl.guardExpiry
  simp only
  (repeat' split) <;> constructor <;> simp_all

theorem minOnExpiry : c.minOnExpiry.Idle := by
  obtain ⟨clutch, cooling, valve⟩ := h
  unfold CoolantControl.minOnExpiry
  (repeat' split) <;> constructor <;> simp_all

theorem holdExpiry (opened : Bool) : (c.holdExpiry opened).Idle := by
  unfold CoolantControl.holdExpiry
  split
  · exact h
  · split
    · exact h.withTimers _ _ _ _
    · exact (h.withTimers _ _ _ _).judge _

theorem pressureOpens : c.pressureOpens.Idle := (h.withTimers _ _ _ _).judge _

theorem pressureCloses : c.pressureCloses.Idle := h.withTimers _ _ _ _

end CoolantControl.Idle

/-- The entry into PARKED leaves the clutch idle (R115, R116). -/
theorem CoolantControl.park_idle (c : CoolantControl) : c.park.Idle := by
  unfold CoolantControl.park
  simp only
  (repeat' split) <;> constructor <;> simp_all [CoolantControl.release]

/-! ## The machine at rest -/

/-- The three blocks that rest besides the clutch, as an operation outside RUN leaves them. -/
structure State.OutputsKept (t s : State) : Prop where
  fans : t.fans.blowerDuty = s.fans.blowerDuty ∧ t.fans.fanDuty = s.fans.fanDuty
  intake : t.intake.outputDuty = s.intake.outputDuty ∧ t.intake.pressurizing = s.intake.pressurizing
  climate : t.climate.blowerFlow = s.climate.blowerFlow ∧ t.climate.blowerDuty = s.climate.blowerDuty ∧
    t.climate.zones = s.climate.zones

theorem State.OutputsKept.of_eq {t s : State} (fans : t.fans = s.fans) (intake : t.intake = s.intake)
    (climate : t.climate = s.climate) : t.OutputsKept s := by
  constructor <;> simp [fans, intake, climate]

theorem State.Still.idle {s : State} (h : s.Still) : s.coolant.Idle := ⟨h.clutch.1, h.clutch.2.1, h.clutch.2.2⟩

theorem State.Still.congr {s t : State} (h : s.Still) (idle : s.coolant.Idle → t.coolant.Idle) (kept : t.OutputsKept s) :
    t.Still := by
  obtain ⟨⟨blower, filter⟩, ⟨output, pressing⟩, flow, duty, zones⟩ := kept
  obtain ⟨clutch, cooling, valve⟩ := idle h.idle
  exact ⟨⟨clutch, cooling, valve⟩, by rw [blower, filter, output]; exact h.fans,
    by rw [flow, duty, zones]; exact h.climate, by rw [pressing]; exact h.intake⟩

theorem State.Empty.congr {s t : State} (h : s.Empty) (slots : t.table.slots = s.table.slots)
    (locks : t.register.locks = s.register.locks) : t.Empty :=
  ⟨fun n => (State.record_congr slots n).trans (h.1 n), fun u => by rw [State.lockOf, locks]; exact h.2 u⟩

theorem State.Empty.rewritten {s t : State} (h : s.Empty) (k : t.Rewritten s)
    (locks : t.register.locks = s.register.locks) : t.Empty := by
  refine ⟨fun n => ?_, fun u => by rw [State.lockOf, locks]; exact h.2 u⟩
  rcases k.records n with e | ⟨q, r, _, hr, _⟩
  · exact e.trans (h.1 n)
  · rw [h.1 n] at hr; cases hr

namespace State.RestSound

variable {s t : State}

theorem of_run (run : s.modes.mode = .run) : s.RestSound :=
  (State.restSound_iff s).2 ⟨fun ne => absurd run ne, fun m => by rw [run] at m; rcases m with m | m <;> cases m⟩

theorem of_rest (still : s.Still) (empty : s.Empty) : s.RestSound :=
  (State.restSound_iff s).2 ⟨fun _ => still, fun _ => empty⟩

variable (h : s.RestSound)
include h

theorem congr (mode : t.modes.mode = s.modes.mode) (still : s.modes.mode ≠ .run → s.Still → t.Still)
    (empty : s.modes.mode = .start ∨ s.modes.mode = .parked → s.Empty → t.Empty) : t.RestSound := by
  rw [State.restSound_iff] at *
  rw [mode]
  exact ⟨fun m => still m (h.1 m), fun m => empty m (h.2 m)⟩

/-- A command that works the clutch, or none of the outputs, and leaves the records and the locks. -/
theorem of_idle (mode : t.modes.mode = s.modes.mode) (idle : s.coolant.Idle → t.coolant.Idle) (kept : t.OutputsKept s)
    (slots : t.table.slots = s.table.slots) (locks : t.register.locks = s.register.locks) : t.RestSound :=
  h.congr mode (fun _ k => k.congr idle kept) (fun _ k => k.congr slots locks)

/-- A command that leaves the outputs and rewrites records in place. -/
theorem rewritten (mode : t.modes.mode = s.modes.mode) (coolant : t.coolant = s.coolant) (kept : t.OutputsKept s)
    (k : t.Rewritten s) (locks : t.register.locks = s.register.locks) : t.RestSound :=
  h.congr mode (fun _ still => still.congr (fun i => coolant ▸ i) kept) (fun _ e => e.rewritten k locks)

theorem still (m : s.modes.mode ≠ .run) : s.Still := ((State.restSound_iff s).1 h).1 m

theorem retire (n : Slot) : (s.retire n).RestSound :=
  h.congr (by simp) (fun _ k => k.congr (fun i => by simpa using i) (.of_eq (by simp) (by simp) (by simp)))
    (fun _ k => ⟨fun m => by rw [State.record_retire, k.1 m, ite_self], fun u => by
      rw [State.lockOf, (s.retire_rest n).locks]; exact k.2 u⟩)

theorem retireAll (reason : Reason) (p : Record → Bool) : (s.retireAll reason p).RestSound :=
  h.congr (by simp) (fun _ k => k.congr (fun i => by simpa using i) (.of_eq (by simp) (by simp) (by simp)))
    (fun _ k => ⟨fun m => by rw [State.record_retireAll, k.1 m]; rfl, fun u => by
      rw [State.lockOf, (s.retireAll_rest reason p).locks]; exact k.2 u⟩)

/-- An operation in HOMING or RUN that leaves the outputs. -/
theorem of_serving (serving : s.serving = true) (mode : t.modes.mode = s.modes.mode) (coolant : t.coolant = s.coolant)
    (kept : t.OutputsKept s) : t.RestSound := by
  refine h.congr mode (fun _ k => k.congr (fun i => coolant ▸ i) kept) fun m => ?_
  simp only [State.serving, Bool.or_eq_true, beq_iff_eq] at serving
  rcases m with m | m <;> rw [m] at serving <;> simp at serving

end State.RestSound

/-- The monitor works none of the outputs, and posts in HOMING and RUN alone (R125, R127). -/
theorem restSound_monitorKeeps : MonitorKeeps State.RestSound where
  air _ _ h := h.of_idle rfl id (.of_eq rfl rfl rfl) rfl rfl
  notices s new old h := h.rewritten (by simp) (by simp) (.of_eq (by simp) (by simp) (by simp)) (.airNotices s new old)
    (s.airNotices_register new old).1
  retire _ n h := h.retire n
  shut s serving h := h.of_serving serving (by simp [State.shutIntake]) (by simp [State.shutIntake])
    ⟨by simp [State.shutIntake], by simp [State.shutIntake], by simp [State.shutIntake]⟩
  sealed _ serving h := h.of_serving serving (by simp) (by simp) (.of_eq (by simp) (by simp) (by simp))
  purged _ serving h := h.of_serving serving (by simp) (by simp) (.of_eq (by simp) (by simp) (by simp))

/-- In START and PARKED no request makes a record or a lock (R8, R46, R51). -/
theorem requestRow_empty {c : Instr} {row : RequestRow} (known : requestRow c = some row) {s : State} (f : RxFrame)
    (rests : s.modes.mode = .start ∨ s.modes.mode = .parked) (h : s.Empty) : (row.serve s f).1.Empty := by
  have retired : ∀ u : State, (u = s ∨ ∃ n r, s.defined f.station = true ∧ s.record n = some r ∧ r.station = f.station ∧
      u = s.retire n) → u.Empty := by
    rintro u (rfl | ⟨n, r, _, live, _⟩)
    · exact h
    · rw [h.1 n] at live; cases live
  cases c with
  | post =>
    cases known
    rcases s.servePost_effect f with e | ⟨n, r, live, _⟩ | ⟨n, t, k, passes, _⟩
    · show (s.servePost f).1.Empty
      rw [e]; exact h
    · rw [h.1 n] at live; cases live
    · have serving := passes.mode
      rcases rests with m | m <;> rw [m] at serving <;> simp at serving
  | withdrawByKey => cases known; exact retired _ (s.serveWithdrawKey_effect f)
  | withdrawBySlot => cases known; exact retired _ (s.serveWithdrawSlot_effect f)
  | lock =>
    cases known
    simp only [State.serveLock]
    split
    · exact h
    · rename_i notParked
      have gate : s.gate f = some .notNow := if_pos (rests.resolve_right notParked)
      rw [gate]
      exact h
  | unlock =>
    cases known
    have freed : ∀ t, (s.setLock t none).Empty := fun t =>
      ⟨h.1, fun u => by
        have := h.2 u
        simp only [State.lockOf, State.setLock, Vector.getElem_set] at *
        split
        · rfl
        · exact this⟩
    simp only [State.serveUnlock]
    split
    · exact h
    · split
      · exact h
      · split
        · exact h
        · split
          · exact freed _
          · exact h
  | refresh =>
    cases known
    exact h.rewritten (s.serveRefresh_rewritten f) (by simp only [State.serveRefresh]; split <;> rfl)
  | supply =>
    cases known
    exact h.congr (by simp) (by simp only [State.serveSupply]; (repeat' split) <;> rfl)
  | _ => cases known <;> exact h.congr (by simp) (by simp)

namespace State.RestSound

variable {s : State} (h : s.RestSound)
include h

theorem request {c : Instr} {row : RequestRow} (known : requestRow c = some row) {t : State} (e : exec c s = .next t) :
    t.RestSound := by
  have kept := exec_request_kept known e
  refine h.congr (by rw [kept.modes]) (fun _ k => k.congr (fun i => by rw [kept.coolant]; exact i)
    (.of_eq kept.fans kept.intake kept.climate)) fun rests empty => ?_
  rcases exec_request_cases known e with rfl | ⟨f, rest, _, _, _, rfl⟩
  · exact empty
  · have begun : (s.beginTake f rest (row.room s f)).Empty :=
      ⟨fun n => (State.record_congr (by simp) n).trans (empty.1 n), fun u => by rw [State.beginTake_lockOf]; exact empty.2 u⟩
    have served := requestRow_empty known f (by simpa using rests) begun
    refine served.congr ?_ ?_
    · simp
    · simp only [State.placeAnswer]; split <;> rfl

theorem lapse (st : Station) : (s.lapse st).RestSound := by
  refine h.congr (by simp) (fun _ k => k.congr (fun i => by simpa using i) (.of_eq (by simp) (by simp) (by simp)))
    fun _ empty => ?_
  unfold State.lapse
  split
  · refine ⟨fun n => ?_, fun u => ?_⟩
    · have retired : (s.retireAll .lapsed (fun r => r.station == st)).record n = none := by
        rw [State.record_retireAll, empty.1 n]; rfl
      exact (State.record_congr (by simp) n).trans retired
    · have unlocked : s.register.locks[u.val] = none := empty.2 u
      have kept := (s.retireAll_rest .lapsed (fun r => r.station == st)).locks
      simp [State.lockOf, State.setEntry, State.freeLocksOf, kept, unlocked]
  · exact empty
  · exact empty

theorem durationExpiry : s.durationExpiry.RestSound := by
  have counted : s.countDownAll.RestSound :=
    h.rewritten (by simp) (by simp) (.of_eq (by simp) (by simp) (by simp)) (.countDownAll s) (by simp [State.countDownAll])
  exact restSound_monitorKeeps.repostPurge (counted.retireAll .expired Record.ranOut) _

theorem convert (c : ChannelId) (raw : BitVec 12) : (s.convert c raw).RestSound :=
  restSound_monitorKeeps.convert h c raw (fun _ _ h => h.of_idle rfl id (.of_eq rfl rfl rfl) rfl rfl)
    (fun _ _ h => h.of_idle rfl (·.judge _) (.of_eq rfl rfl rfl) rfl rfl)
    (fun _ _ h => h.of_idle rfl id ⟨⟨rfl, rfl⟩, ⟨rfl, rfl⟩, ⟨rfl, rfl, rfl⟩⟩ rfl rfl)

theorem boostHand : s.boostHand.RestSound := by
  unfold State.boostHand
  split
  · rename_i run
    exact .of_run (by simpa using run.1)
  · exact h

theorem withDoors (doors : Vector Bool 6) (boost : Timer) : State.RestSound { s with
    pins := { s.pins with doorsOpen := doors }, intake := { s.intake with boostTimer := boost } } :=
  h.of_idle rfl id ⟨⟨rfl, rfl⟩, ⟨rfl, rfl⟩, ⟨rfl, rfl, rfl⟩⟩ rfl rfl

theorem doorChange (door : Fin 6) (isOpen : Bool) : (s.doorChange door isOpen).RestSound := by
  unfold State.doorChange
  simp only
  split
  · split
    · exact h.withDoors _ _
    · exact (h.withDoors _ _).boostHand
  · split
    · exact h.withDoors _ s.intake.boostTimer
    · exact h.withDoors _ _

end State.RestSound

/-! ## The entries into the modes -/

theorem State.enterRun_restSound (s : State) : s.enterRun.RestSound := .of_run (by simp)

theorem State.enterParked_restSound (s : State) : s.enterParked.RestSound := by
  have enters := s.enterParked_enters
  have idle := s.coolant.park_idle
  refine .of_rest ⟨?_, ?_, ?_, ?_⟩ ⟨enters.records, enters.locks⟩
  · simpa using ⟨idle.clutch, idle.cooling, idle.valve⟩
  · simp [IntakeController.park]
  · simp [ClimateComputer.rest]
  · simp [IntakeController.park]

/-- HOMING is entered from PARKED and from START, where the outputs rest. -/
theorem State.Still.enterHoming {s : State} (h : s.Still) : s.enterHoming.RestSound := by
  refine restSound_monitorKeeps.enterHoming ?_
  have still : (s.setMode .homing).startHoming.Still :=
    h.congr (fun i => by simpa using i) (.of_eq (by simp) (by simp) (by simp))
  refine (State.restSound_iff _).2 ⟨fun _ => still, fun m => ?_⟩
  simp [State.setMode] at m

namespace State.RestSound

variable {s : State} (h : s.RestSound)
include h

theorem homingCheck : s.homingCheck.RestSound :=
  s.homingCheck_keeps (fun s _ => s.enterRun_restSound) (fun s _ => s.enterParked_restSound) h

theorem debounceExpiry : s.debounceExpiry.RestSound :=
  s.debounceExpiry_keeps (P := State.RestSound) (fun s h => h.of_idle rfl id (.of_eq rfl rfl rfl) rfl rfl)
    (fun s parked h => (h.still (by rw [parked]; decide)).enterHoming) (fun s _ => s.enterRun_restSound)
    (fun s _ => s.enterParked_restSound) h

end State.RestSound

/-- A reset clears every output, the table and the locks (R24, R54, R159, R161). -/
theorem State.reboot_restSound (s : State) (good : Bool) : (s.reboot good).RestSound := by
  have still : s.clearVolatile.Still := by
    refine ⟨⟨?_, rfl, rfl⟩, ⟨rfl, rfl, rfl⟩, ⟨rfl, rfl, fun z => ?_⟩, rfl⟩
    · rw [State.clearVolatile_coolant]; exact nofun
    · simp
  have empty : s.clearVolatile.Empty := ⟨fun n => by simp [State.record],
    fun u => by simp [State.lockOf, StationRegister.afterReset]⟩
  have judged : s.clearVolatile.evaluateAtReset.RestSound := by
    unfold State.evaluateAtReset
    split
    · exact restSound_monitorKeeps.startEvaluation (.of_rest still empty)
    · exact .of_rest still empty
  have start : s.clearVolatile.evaluateAtReset.modes.mode = .start := by simp; rfl
  show (s.clearVolatile.evaluateAtReset.startUp good).RestSound
  generalize s.clearVolatile.evaluateAtReset = u at judged start
  unfold State.startUp
  split
  · have rests : u.Still := judged.still (by rw [start]; decide)
    exact (rests.congr (t := u.bringOnline) id (.of_eq rfl rfl rfl)).enterHoming
  · exact judged.of_idle rfl id (.of_eq rfl rfl rfl) rfl rfl

/-- Every command keeps the plant at rest outside RUN. -/
theorem effect_restSound (s t : State) (h : s.RestSound) (e : Effect s t) : t.RestSound := by
  cases e with
  | none => exact h
  | request row e => exact h.request row e
  | reset u good pins pending => exact u.reboot_restSound good
  | offline online stays =>
    exact h.rewritten (by simp) (by simp) (.of_eq (by simp) (by simp) (by simp)) s.goOffline_rewritten
      (by simp [State.goOffline, State.mapEntries])
  | lapse st => exact h.lapse st
  | duration =>
    refine State.RestSound.durationExpiry ?_
    exact h.of_idle rfl id (.of_eq rfl rfl rfl) rfl rfl
  | allocated run => exact .of_run (by simpa using run)
  | supplyJudged rests =>
    refine h.of_idle (by simp) (fun i => ?_) ⟨by simp, by simp, by simp⟩ (by simp) (by simp)
    rw [State.recomputeSupply_coolant]
    split
    · exact i
    · exact i.judge _
  | converted c rest raw scan =>
    refine State.RestSound.homingCheck (State.RestSound.convert ?_ c raw)
    exact h.of_idle rfl id (.of_eq rfl rfl rfl) rfl rfl
  | dwelt => exact (restSound_monitorKeeps.dwellExpiry h).homingCheck
  | cleared => exact restSound_monitorKeeps.clearHoldExpiry h
  | cabCleared => exact restSound_monitorKeeps.cabClearExpiry h
  | intakeComputed run => exact .of_run (by simpa using run)
  | doorChanged door isOpen changed => exact h.doorChange door isOpen
  | boostEnded running =>
    refine State.RestSound.boostHand ?_
    exact h.withDoors s.pins.doorsOpen .none
  | guardExpired => exact h.of_idle rfl (·.guardExpiry) (.of_eq rfl rfl rfl) rfl rfl
  | minOnExpired => exact h.of_idle rfl (·.minOnExpiry) (.of_eq rfl rfl rfl) rfl rfl
  | pressureChanged isOpen changed =>
    refine h.of_idle rfl (fun i => ?_) (.of_eq rfl rfl rfl) rfl rfl
    cases isOpen
    · exact i.pressureCloses
    · exact i.pressureOpens
  | holdExpired => exact h.of_idle rfl (·.holdExpiry _) (.of_eq rfl rfl rfl) rfl rfl
  | overCurrent asserted =>
    refine h.of_idle rfl id ⟨?_, ⟨rfl, rfl⟩, ⟨rfl, rfl, rfl⟩⟩ rfl rfl
    simp only; split <;> exact ⟨rfl, rfl⟩
  | driven event present =>
    refine State.RestSound.homingCheck ?_
    exact h.of_idle rfl id (.of_eq rfl rfl rfl) rfl rfl
  | debounced => exact h.debounceExpiry.homingCheck
  | received => exact h.of_idle (by simp) (fun i => by simpa using i) (.of_eq (by simp) (by simp) (by simp)) (by simp) (by simp)
  | pauseEnded | intakePeriod => exact h.of_idle rfl id ⟨⟨rfl, rfl⟩, ⟨rfl, rfl⟩, ⟨rfl, rfl, rfl⟩⟩ rfl rfl
  | recovered off =>
    exact h.of_idle (by simp) (fun i => by simpa using i) (.of_eq (by simp) (by simp) (by simp)) (by simp)
      (by simp [State.mapEntries])
  | sent | writeFailed | scanBegun | stepped | ignitionChanged =>
    exact h.of_idle rfl id (.of_eq rfl rfl rfl) rfl rfl

/-- Settles O59: outside RUN no command works an output, and the modes START and PARKED are entered with the table and the
locks empty. -/
theorem stepsKeepThePlantAtRest : Obligations.StepsKeepThePlantAtRest :=
  step_keeps_of_effect
    (fun _ h => h.of_idle rfl (·.withTimers _ _ _ _) ⟨⟨rfl, rfl⟩, ⟨rfl, rfl⟩, ⟨rfl, rfl, rfl⟩⟩ rfl rfl)
    (fun _ _ h => h.of_idle rfl id (.of_eq rfl rfl rfl) rfl rfl) effect_restSound

end Sys2Proof.Machine
end

section
/-! SUPPORT. The queue of commands, and what every command leaves alone (log 4, R3, R41, R182); the state of
`State.reset` (log 6). -/

namespace Sys2Proof.Machine

/-! ## Steps -/

/-- Settles O1: the front command runs on the machine with the rest of the queue. -/
theorem stepTakesFrontCommand : Obligations.StepTakesFrontCommand := by
  unfold Obligations.StepTakesFrontCommand
  intro s c rest queued
  simp only [step, queued, State.withPending]

theorem step_idle {s : State} (idle : s.pending = []) : step s = .next s.tick := by
  simp only [step, idle]

/-- The expiries of a list of timers are those of the timers that run out, in the list's order. -/
theorem filter_runsOut_eq_flatMap (l : List (Timer × Instr)) :
    (l.filter (fun p => p.1.any (fun ms => decide (ms ≤ 1)))).map (fun p => p.2) = l.flatMap (fun p => due p.1 p.2) := by
  induction l with
  | nil => rfl
  | cons p l ih =>
    obtain ⟨timer, c⟩ := p
    have runs : timer.any (fun ms => decide (ms ≤ 1)) = runsOut timer := by cases timer <;> rfl
    rw [List.flatMap_cons, ← ih, List.filter_cons]
    simp only [runs, due]
    cases runsOut timer <;> rfl

theorem State.tick_pending (s : State) : s.tick.pending = s.pending ++ s.expiries := rfl

/-- Settles O2: a millisecond writes every running timer and the queue of the expiries due. -/
theorem idleStepLetsOneMillisecondPass : Obligations.IdleStepLetsOneMillisecondPass := by
  unfold Obligations.IdleStepLetsOneMillisecondPass
  intro s idle
  refine ⟨s.tick, step_idle idle, rfl, rfl, rfl, rfl, rfl, rfl, rfl, rfl, rfl, rfl, rfl, rfl, rfl, fun st => ?_, ?_, rfl⟩
  · simp only [State.entry, State.tick, Vector.getElem_ofFn, StationEntry.tick]
    cases s.register.entries[st.val].lapse <;> rfl
  · rw [filter_runsOut_eq_flatMap, State.tick_pending, idle]
    simp only [State.expiries, List.flatMap_cons, List.flatMap_nil, List.append_nil, List.nil_append, List.append_assoc]
    rfl

/-! ## What a command leaves alone -/

/-- No effect of a command touches the queue. -/
theorem Effect.pending {s t : State} (e : Effect s t) : t.pending = s.pending := by
  cases e with
  | request row e => exact (exec_request_kept row e).pending
  | reset u good pins pending => simpa using pending
  | _ => simp

/-- A command that can reset the device leaves the pins. -/
theorem exec_mayReset_pins {c : Instr} (h : mayReset c = true) {s t : State} (e : exec c s = .next t) : t.pins = s.pins := by
  rcases exec_mayReset_cases h e with ⟨u, good, pins, _, rfl⟩ | rfl | ⟨f, rest, _, _, _, rfl⟩ | ⟨_, _, rfl⟩ | rfl
  · simpa using pins
  · rfl
  · rfl
  · simp
  · rfl

/-- The pins after a command, as the outside has set them. -/
def Pins.after (p : Pins) : Instr → Pins
  | .doorSwitchChange d isOpen => { p with doorsOpen := p.doorsOpen.set d.val isOpen }
  | .highPressureSwitchChange isOpen => { p with pressureOpen := isOpen }
  | .overCurrentAssertion asserted => { p with overCurrent := asserted }
  | .ignitionInputChange isOn => { p with ignition := isOn }
  | _ => p

theorem State.doorChange_pins (s : State) (d : Fin 6) (isOpen : Bool) :
    (s.doorChange d isOpen).pins = s.pins.after (.doorSwitchChange d isOpen) := by
  unfold State.doorChange
  simp only
  (repeat' split) <;> simp [Pins.after]

/-- A command that resets nothing leaves the live layout, and sets the one pin whose change it reports. -/
theorem exec_live_pins {c : Instr} (stays : mayReset c = false) {s t : State} (e : exec c s = .next t) :
    t.store.live = s.store.live ∧ t.pins = s.pins.after c := by
  cases row : requestRow c with
  | some parts =>
    have kept := exec_request_kept row e
    refine ⟨kept.live, kept.pins.trans ?_⟩
    cases c <;> cases row <;> rfl
  | none =>
  cases event : actuatorEvent s.store.live c with
  | some change =>
    have pins : s.pins.after c = s.pins := by cases c <;> cases event <;> rfl
    rw [pins]
    rcases exec_actuatorEvent_cases event e with rfl | ⟨_, rfl⟩
    · exact ⟨rfl, rfl⟩
    · simp
  | none =>
  cases c with
  | frameReceived f => obtain ⟨_, rfl⟩ := exec_frameReceived_cases e; simp [Pins.after]
  | busOffRecovery => rcases exec_busOffRecovery_cases e with rfl | ⟨_, rfl⟩ <;> simp [Pins.after]
  | allocation =>
    obtain rfl := Host.Outcome.next.inj e
    split <;> simp [Pins.after]
  | conversionComplete raw => rcases exec_conversionComplete_cases e with rfl | ⟨c, rest, _, rfl⟩ <;> simp [Pins.after]
  | intakeComputation =>
    obtain rfl := Host.Outcome.next.inj e
    split <;> simp [Pins.after]
  | doorSwitchChange door isOpen =>
    by_cases same : s.pins.doorsOpen[door.val] = isOpen
    · obtain rfl : t = s := exec_result e (if_pos same)
      simp [Pins.after, ← same]
    · obtain rfl : t = s.doorChange door isOpen := exec_result e (if_neg same)
      exact ⟨by simp, s.doorChange_pins door isOpen⟩
  | boostTimerExpiry => rcases exec_boostTimerExpiry_cases e with rfl | ⟨_, rfl⟩ <;> simp [Pins.after]
  | highPressureSwitchChange isOpen =>
    by_cases same : s.pins.pressureOpen = isOpen
    · obtain rfl : t = s := exec_result e (if_pos same)
      simp [Pins.after, ← same]
    · rw [exec_result e (if_neg same)]
      exact ⟨rfl, rfl⟩
  | pauseTimerExpiry => rcases exec_pauseTimerExpiry_cases e with rfl | rfl <;> simp [Pins.after]
  | actuatorStep a =>
    obtain rfl := Host.Outcome.next.inj e
    split <;> simp [Pins.after]
  | ignitionInputChange isOn =>
    by_cases same : s.pins.ignition = isOn
    · obtain rfl : t = s := exec_result e (if_pos same)
      simp [Pins.after, ← same]
    · rw [exec_result e (if_neg same)]
      exact ⟨rfl, rfl⟩
  | lapse | durationTimerExpiry | scanTimerExpiry | dwellTimerExpiry | clearHoldExpiry | cabClearHoldExpiry
  | guardTimerExpiry | minimumOnTimerExpiry | pressureHoldExpiry | overCurrentAssertion | ignitionDebounceExpiry =>
    obtain rfl := Host.Outcome.next.inj e
    simp [Pins.after]
  | _ => contradiction

/-- Settles O3: a request leaves the plant, a reset the pins, and each other command sets the pin it reports at most. -/
theorem commandsKeepQueueLayoutAndPins : Obligations.CommandsKeepQueueLayoutAndPins := by
  unfold Obligations.CommandsKeepQueueLayoutAndPins
  intro c s t e
  refine ⟨(exec_effect e).pending, fun stays => (exec_live_pins stays e).1, ?_⟩
  have pins : t.pins = s.pins.after c := by
    cases reset : mayReset c with
    | true =>
      rw [exec_mayReset_pins reset e]
      cases c <;> cases reset <;> rfl
    | false => exact (exec_live_pins reset e).2
  rw [pins]
  cases c <;> rfl

/-! ## Totality -/

/-- Settles O4: only FRAME_RECEIVED has an arm that stops, and it stops on the length of its frame alone. -/
theorem onlyAnOversizeFrameStops : Obligations.OnlyAnOversizeFrameStops := by
  unfold Obligations.OnlyAnOversizeFrameStops
  intro c s
  have total : ∀ (p : Prop) [Decidable p] (t u : State), ∃ v, (if p then .next t else .next u :
      Host.Outcome State Fault Refusal) = .next v := fun p _ t u => by
    split
    · exact ⟨t, rfl⟩
    · exact ⟨u, rfl⟩
  cases c with
  | frameReceived f =>
    by_cases long : 8 < f.data.length
    · exact .inr ⟨f, rfl, long, if_pos long⟩
    · exact .inl ⟨_, if_neg long⟩
  | busOffRecovery => exact .inl (total _ _ _)
  | doorSwitchChange | highPressureSwitchChange | ignitionInputChange => exact .inl (total _ _ _)
  | busOff =>
    left
    show ∃ t, execBusOff s = .next t
    unfold execBusOff
    split
    · exact ⟨s, rfl⟩
    · exact total _ _ _
  | conversionComplete raw =>
    left
    show ∃ t, execConversionComplete raw s = .next t
    unfold execConversionComplete
    split <;> exact ⟨_, rfl⟩
  | boostTimerExpiry =>
    left
    show ∃ t, execBoostTimerExpiry s = .next t
    unfold execBoostTimerExpiry
    split <;> exact ⟨_, rfl⟩
  | pauseTimerExpiry =>
    left
    show ∃ t, execPauseTimerExpiry s = .next t
    unfold execPauseTimerExpiry
    split <;> exact ⟨_, rfl⟩
  | _ => exact .inl ⟨_, rfl⟩

/-! ## The reset state -/

/-- `State.reset` is what a reset with a blank store and these pins leaves before evaluation and start-up (log 6, log 7). -/
theorem State.reset_clearVolatile : State.reset.clearVolatile = State.reset := rfl

/-- Settles O60: every block of `State.reset` is at its reset value. -/
theorem resetIsSound : Obligations.ResetIsSound := by
  unfold Obligations.ResetIsSound
  have records : ∀ n, State.reset.record n = none := by decide
  refine ⟨State.reset_clearVolatile ▸ State.reset.clearVolatile_tableSound, ?_, ?_, ?_, ?_, ?_, ?_⟩
  · constructor <;> decide
  · constructor <;> decide
  · exact (State.driveSound_iff _).2 (.afterReset _ _ _)
  · constructor <;> decide
  · exact ⟨by decide, by decide, fun r e => (by rw [records] at e; cases e), by decide⟩
  · constructor <;> decide

end Sys2Proof.Machine
end

section
/-! SUPPORT. The cab network link: frames received and sent, bus-off and recovery, notices and answers as they are placed
(chapter 10), and the end of a layout write (R181). -/

namespace Sys2Proof.Machine

/-! ## The layout store at a write's end -/

/-- The content of a cut or failed write never matches its CRC (R178, R181). -/
theorem NvStore.load_unmatched (image : Layout) : (NvStore.unmatched image).load = (Layout.builtIn, .layoutDefault) := by
  have differs : image.crc ≠ image.crc ^^^ 0xFFFF#16 := fun same => by
    have zero := congrArg (image.crc ^^^ ·) same
    simp only [← BitVec.xor_assoc, BitVec.xor_self, BitVec.zero_xor] at zero
    exact absurd zero (by decide)
  exact if_neg differs

/-- Settles O10: the two ends of a write, and the command without one. -/
theorem storeWriteEndRestartsOrFails : Obligations.StoreWriteEndRestartsOrFails := by
  unfold Obligations.StoreWriteEndRestartsOrFails
  intro s
  refine ⟨fun writing => ⟨congrArg Host.Outcome.next ((if_pos writing).trans s.writeEnd_verified),
    s.writeEnd false, congrArg Host.Outcome.next (if_pos writing), rfl, rfl, rfl, rfl, rfl,
    NvStore.load_unmatched _⟩, fun idle verified => congrArg Host.Outcome.next (if_neg idle)⟩

/-! ## A frame at the port -/

theorem requestStation_of_base {f : CanFrame} {st : Station} (base : f.extended = false) (data : f.remote = false)
    (identifier : f.identifier = 0x240 + st.val) : requestStation f = some st := by
  have offset : f.identifier - 0x240 = st.val := by omega
  unfold requestStation
  rw [if_pos ⟨base, data, by omega⟩, dif_pos (offset ▸ st.isLt)]
  exact congrArg some (Fin.ext offset)

theorem requestStation_eq_none {f : CanFrame} (other : f.extended = true ∨ f.remote = true ∨ f.identifier < 0x240 ∨
    0x24F < f.identifier) : requestStation f = none := by
  unfold requestStation
  split
  · rename_i base
    obtain ⟨base, data, low⟩ := base
    rw [base, data] at other
    simp only [Bool.false_eq_true, false_or] at other
    exact dif_neg (by omega)
  · rfl

theorem exec_frameReceived {f : CanFrame} (short : f.data.length ≤ 8) (s : State) :
    exec (.frameReceived f) s = .next (s.receive f) := if_neg (by omega)

/-- Settles O11: by the station that the identifier names, and by the room of the FIFO. -/
theorem frameReceivedJoinsFifoOrSetsOverrun : Obligations.FrameReceivedJoinsFifoOrSetsOverrun := by
  unfold Obligations.FrameReceivedJoinsFifoOrSetsOverrun
  intro s f short
  rw [exec_frameReceived short]
  refine ⟨fun st online base data identifier => ?_, fun ignored => ?_⟩
  · simp only [State.receive, online, requestStation_of_base base data identifier]
    have capacity : Config.rxCapacity = 8 := rfl
    rw [capacity]
    by_cases room : s.link.rx.length < 8 <;> simp [room]
  · rcases ignored with offline | other
    · simp [State.receive, offline]
    · simp [State.receive, requestStation_eq_none other]

/-! ## Bits of a byte as numbers -/

theorem getLsbD_seven_iff (b : Byte) : b.getLsbD 7 = true ↔ 128 ≤ b.toNat := by
  rw [BitVec.getLsbD, Nat.testBit_eq_decide_div_mod_eq]
  have := b.isLt
  simp; omega

theorem getLsbD_six_iff (b : Byte) : (b.getLsbD 7 && b.getLsbD 6) = true ↔ 192 ≤ b.toNat := by
  simp only [BitVec.getLsbD, Nat.testBit_eq_decide_div_mod_eq]
  have := b.isLt
  simp; omega

theorem getLsbD_two_iff (b : Byte) : b.getLsbD 2 = true ↔ b.toNat / 4 % 2 = 1 := by
  simp [BitVec.getLsbD, Nat.testBit_eq_decide_div_mod_eq]

namespace TxFrame

variable (f : TxFrame)

theorem answers_iff (c : Nat) : f.answers c = true ↔
    128 ≤ f.data[0].toNat ∧ f.data[0].toNat % 64 = c ∧ f.data[1].toNat % 16 = 0 := by
  simp only [answers, Bool.and_eq_true, beq_iff_eq, getLsbD_seven_iff, and_assoc]

theorem isNotice_iff : f.isNotice = true ↔ f.data[0].toNat < 128 := by
  have := getLsbD_seven_iff f.data[0]
  rw [isNotice, Bool.not_eq_true', ← Bool.not_eq_true, this, not_le]

theorem isMarked_iff : f.isMarked = true ↔ 192 ≤ f.data[0].toNat := getLsbD_six_iff _

theorem reportsOverrun_iff : f.reportsOverrun = true ↔ 128 ≤ f.data[0].toNat ∧ f.data[0].toNat % 64 = 9 ∧
    f.data[1].toNat % 16 = 0 ∧ f.data[2].toNat / 4 % 2 = 1 := by
  rw [reportsOverrun, Bool.and_eq_true, answers_iff, getLsbD_two_iff, and_assoc, and_assoc]

end TxFrame

/-! ## A frame sent -/

theorem toList_eight {α : Type} (v : Vector α 8) :
    v.toList = [v[0], v[1], v[2], v[3], v[4], v[5], v[6], v[7]] := by
  refine List.ext_getElem (by simp) fun i h _ => ?_
  rw [Vector.length_toList] at h
  interval_cases i <;> rfl

/-- A reset reads nothing of the link and the register (R182): they are cleared. -/
theorem State.clearVolatile_congr {s t : State} (store : t.store = s.store) (pins : t.pins = s.pins)
    (pending : t.pending = s.pending) : t.clearVolatile = s.clearVolatile := by
  simp only [State.clearVolatile, store, pins, pending]

theorem State.restartDevice_eq {s t : State} (store : t.store = s.store) (pins : t.pins = s.pins)
    (pending : t.pending = s.pending) : t.restartDevice = s.reboot true := by
  rw [State.restartDevice, State.clearVolatile_congr store pins pending]; rfl

/-- Settles O12: by the head frame, and by what a completed transmission does with it. -/
theorem transmissionRemovesHeadFrame : Obligations.TransmissionRemovesHeadFrame := by
  unfold Obligations.TransmissionRemovesHeadFrame
  intro s
  refine ⟨fun f rest online queued stays => ?_, fun f rest online queued awaited answer => ?_,
    fun f rest online queued => ⟨f.onBus, ?_, rfl, rfl, rfl, ?_⟩, fun idle => ?_, fun f => f.answers_iff 14⟩
  · have stays : ¬ (s.link.restartAwaited = true ∧ f.isRestartAnswer = true) := by
      rintro ⟨awaited, answer⟩; simp [awaited, answer] at stays
    refine congrArg Host.Outcome.next ?_
    simp [State.transmitted, online, queued, stays]
  · refine congrArg Host.Outcome.next ?_
    simp only [State.transmitted, online, queued]
    rw [if_pos ⟨awaited, answer⟩]
    exact State.restartDevice_eq (s := s) rfl rfl rfl
  · simp [State.transmitting, online, queued]
  · exact toList_eight f.data
  · have nothing : s.transmitted = s := by
      rcases idle with offline | empty
      · simp [State.transmitted, offline]
      · cases online : s.link.state <;> simp [State.transmitted, online, empty]
    refine ⟨?_, congrArg Host.Outcome.next nothing⟩
    rcases idle with offline | empty
    · simp [State.transmitting, offline]
    · cases online : s.link.state <;> simp [State.transmitting, online, empty]

/-! ## Bus-off and recovery -/

theorem lostReport_iff (tx : List TxFrame) (st : Station) : lostReport tx st = true ↔
    ∃ f ∈ tx, f.station = st ∧ (f.isNotice = true ∨ f.isMarked = true) := by
  simp [lostReport]

/-- Settles O13: by the discarded frames, and by the answer of RESTART among them. -/
theorem busOffDiscardsQueuesAndHoldsTimers : Obligations.BusOffDiscardsQueuesAndHoldsTimers := by
  unfold Obligations.BusOffDiscardsQueuesAndHoldsTimers
  intro s
  have onBus : s.link.state = .online → exec .busOff s = if s.link.restartAwaited = true ∧
      s.link.tx.any TxFrame.isRestartAnswer = true then .next s.goOffline.restartDevice else .next s.goOffline :=
    fun online => if_neg (by rw [online]; exact nofun)
  refine ⟨fun online stays => ⟨s.goOffline, ?_, rfl, rfl, ?_, fun st => ?_⟩, fun f queued online awaited answer => ?_,
    fun offline => if_pos offline, fun f => ⟨f.isNotice_iff, f.isMarked_iff, f.reportsOverrun_iff⟩⟩
  · refine (onBus online).trans (if_neg ?_)
    rintro ⟨awaited, answer⟩
    obtain ⟨f, queued, answer⟩ := List.any_eq_true.1 answer
    rcases stays with no | none
    · rw [awaited] at no; cases no
    · rw [none f queued] at answer; cases answer
  · simp [State.goOffline]
  · rw [State.entry_goOffline]
    refine ⟨rfl, ?_, ?_⟩
    · rw [Bool.or_eq_true, lostReport_iff]
    · cases (s.entry st).lapse <;> rfl
  · have discarded : s.link.restartAwaited = true ∧ s.link.tx.any TxFrame.isRestartAnswer = true :=
      ⟨awaited, List.any_eq_true.2 ⟨f, queued, answer⟩⟩
    rw [onBus online, if_pos discarded, State.restartDevice_eq (s := s) (by simp) (by simp) (by simp)]
    rfl

/-- Settles O14: recovery restarts the held timers and brings the link ONLINE. -/
theorem recoveryRestartsHeldTimers : Obligations.RecoveryRestartsHeldTimers := by
  unfold Obligations.RecoveryRestartsHeldTimers
  intro s
  refine ⟨fun off => ⟨_, if_pos off, rfl, fun st => ?_⟩, fun on => if_neg (by simp [on])⟩
  rw [State.entry_recovered]
  cases (s.entry st).lapse with
  | held ms =>
    simp only [State.resumeLapse, State.lapseInterval]
    split <;> split <;> simp_all
  | running ms => rfl
  | stopped => rfl

end Sys2Proof.Machine
end

section
/-! SUPPORT. A frame taken and an answer placed, by the entry they write (R47, R59, R166, R167); the bytes of the notices and
of the answers (R172, R174). -/

namespace Sys2Proof.Machine

/-! ## Bytes -/

theorem nibbles_eq {hi lo : Nat} (h : hi < 16) (l : lo < 16) : nibbles hi lo = BitVec.ofNat 8 (16 * hi + lo) := by
  rw [nibbles, Nat.mod_eq_of_lt h, Nat.mod_eq_of_lt l, Nat.mul_comm]

theorem hiByte_word {n : Nat} (h : n < 65536) : hiByte (word n) = BitVec.ofNat 8 (n / 256) := by
  refine BitVec.eq_of_toNat_eq ?_
  simp [hiByte, word, Nat.shiftRight_eq_div_pow]
  omega

theorem loByte_word (n : Nat) : loByte (word n) = BitVec.ofNat 8 (n % 256) := by
  refine BitVec.eq_of_toNat_eq ?_
  simp [loByte, word]

theorem RxFrame.num16_eq (f : RxFrame) (i : Nat) : f.num16 i = 256 * f.num i + f.num (i + 1) := by
  simp only [num16, num, wordOf, BitVec.toNat_append]
  rw [← Nat.shiftLeft_add_eq_or_of_lt (f.byte (i + 1)).isLt, Nat.shiftLeft_eq]
  omega

theorem RxFrame.isRequest_iff (f : RxFrame) (k : Nat) : f.isRequest k = true ↔ f.data.length = 8 ∧ f.num 0 = k := by
  simp only [isRequest, Bool.and_eq_true, beq_iff_eq]

theorem RxFrame.num_lt (f : RxFrame) (i : Nat) : f.num i < 256 := (f.byte i).isLt

theorem Kind.code_lt (k : Kind) : k.code < 16 := by cases k <;> decide

theorem RecState.code_lt (x : RecState) : x.code < 16 := by cases x <;> decide

theorem RecFlags.code_lt (f : RecFlags) : f.code < 16 := by
  simp only [RecFlags.code, bit]; split <;> split <;> split <;> split <;> omega

theorem Status.code_lt (st : Status) : st.code < 16 := by cases st <;> decide

/-! ## Notices -/

theorem State.noticeRoom_iff (s : State) : s.noticeRoom = true ↔
    s.link.state = .online ∧ s.link.tx.length + s.link.reserved ≤ 16 := by
  simp only [noticeRoom, Bool.and_eq_true, beq_iff_eq, decide_eq_true_iff]
  exact Iff.rfl

theorem vector_eight_congr {α : Type} {a b c d e f g h a' b' c' d' e' f' g' h' : α} (ha : a = a') (hb : b = b')
    (hc : c = c') (hd : d = d') (he : e = e') (hf : f = f') (hg : g = g') (hh : h = h') :
    #v[a, b, c, d, e, f, g, h] = #v[a', b', c', d', e', f', g', h'] := by
  subst ha hb hc hd he hf hg hh; rfl

theorem vector_six_congr {α : Type} {a b c d e f a' b' c' d' e' f' : α} (ha : a = a') (hb : b = b')
    (hc : c = c') (hd : d = d') (he : e = e') (hf : f = f') :
    #v[a, b, c, d, e, f] = #v[a', b', c', d', e', f'] := by
  subst ha hb hc hd he hf; rfl

/-- A record as a frame, byte by byte (R174). -/
theorem Record.frame_eq (first : Byte) {low : Nat} (n : Slot) (r : Record) (lowLt : low < 16)
    (level : r.level.getD 0 < 16) (granted : r.grantedLevel.getD 0 < 16) (value : r.value.getD 0 < 65536) :
    r.frame first low n = #v[first, BitVec.ofNat 8 (16 * r.flags.code + low), BitVec.ofNat 8 n.val,
      BitVec.ofNat 8 (16 * r.target.val + r.kind.code), BitVec.ofNat 8 (16 * r.state.code + r.station.val),
      BitVec.ofNat 8 (16 * r.level.getD 0 + r.grantedLevel.getD 0), BitVec.ofNat 8 (r.value.getD 0 / 256),
      BitVec.ofNat 8 (r.value.getD 0 % 256)] := by
  have target : r.target.val < 16 := by omega
  have station : r.station.val < 16 := by omega
  exact vector_eight_congr rfl (nibbles_eq r.flags.code_lt lowLt) rfl (nibbles_eq target r.kind.code_lt)
    (nibbles_eq r.state.code_lt station) (nibbles_eq level granted) (hiByte_word value) (loByte_word _)

/-- The four flags as weights (R174). -/
theorem RecFlags.code_weights (f : RecFlags) (w : Nat) : w * f.code =
    (if f.clamped = true then w * 8 else 0) + (if f.noTemp = true then w * 4 else 0) +
    (if f.noCool = true then w * 2 else 0) + (if f.coldEngine = true then w else 0) := by
  have weight : ∀ (b : Bool) (n : Nat), (if b = true then n else 0) = n * bit b := by
    intro b n; cases b <;> simp [bit]
  simp only [RecFlags.code, weight]
  ring

/-- Settles O15: a notice by its mask and the room, and the bytes that a record and a change of state are sent as. -/
theorem noticesAreFilteredPlacedOrDropped : Obligations.NoticesAreFilteredPlacedOrDropped := by
  unfold Obligations.NoticesAreFilteredPlacedOrDropped
  refine ⟨fun s st c data => ?_, fun c reason n r => ?_, fun new old => rfl⟩
  · have room := s.noticeRoom_iff
    rw [show s.handNotice st c data = if st = 0 ∨ (s.entry st).mask.getLsbD c.bit = false then s
      else if s.link.state = .online ∧ s.link.tx.length + s.link.reserved ≤ 16 then s.enqueue { station := st, data := data }
      else s.setEntry st { s.entry st with overrun := true } by simp only [State.handNotice, room]]
    cases c <;> rfl
  · intro code state kind mark level granted value reasonLt levelLt grantedLt valueLt
    refine (Record.frame_eq _ n r reasonLt levelLt grantedLt valueLt).trans ?_
    refine vector_eight_congr ?_ (congrArg (fun w => BitVec.ofNat 8 (w + reason)) (r.flags.code_weights 16)) rfl ?_ ?_
      rfl rfl rfl
    · cases c <;> rfl
    · simp only [kind]; cases r.kind <;> rfl
    · simp only [state]; cases r.state <;> rfl

/-! ## A frame taken -/

/-- The entry of a station whose frame is counted (R47, R48). -/
def State.counted (s : State) (st : Station) : StationEntry :=
  { s.entry st with
    presence := .present
    lapse := if (s.config st).lapseInterval = 0 then .stopped else .running (1000 * (s.config st).lapseInterval) }

theorem State.countFrame_eq (s : State) (st : Station) : s.countFrame st = s.setEntry st (s.counted st) := by
  simp only [countFrame, counted, lapseInterval]
  split <;> split <;> simp_all

section
variable (s : State) (f : RxFrame) (rest : List RxFrame) (n : Nat)

theorem State.entry_beginTake (st : Station) : (s.beginTake f rest n).entry st =
    if st = f.station ∧ f.data.length = 8 ∧ s.defined f.station = true then s.counted st else s.entry st := by
  unfold State.beginTake
  simp only [State.countFrame_eq]
  by_cases counts : f.data.length = 8 ∧ s.defined f.station = true
  · rw [if_pos counts, State.entry_setEntry]
    by_cases sender : st = f.station
    · rw [if_pos sender, if_pos ⟨sender, counts⟩, sender]; rfl
    · rw [if_neg sender, if_neg (fun c => sender c.1)]; rfl
  · rw [if_neg counts, if_neg (fun c => counts c.2)]; rfl

theorem State.beginTake_eq : s.beginTake f rest n = { s with
    link := { s.link with rx := rest, reserved := n },
    register := { s.register with entries := (s.beginTake f rest n).register.entries } } := by
  unfold State.beginTake
  simp only
  split <;> rfl

end

/-! ## Taking waits -/

section
variable {c : Instr} {row : RequestRow} (known : requestRow c = some row) {s : State} {f : RxFrame} {rest : List RxFrame}
include known

theorem requestRow_room_pos (s : State) (f : RxFrame) : 1 ≤ row.room s f := by
  cases c <;> cases known
  case list =>
    simp only [State.listRoom]
    split
    · exact le_refl 1
    · exact Nat.le_max_left _ _
  all_goals exact le_refl 1

theorem exec_request_empty (empty : s.link.rx = []) : exec c s = .next s := by
  rw [exec_requestRow known, State.take, empty]

/-- A head frame of another row, or one that the link has no room for, waits (R166, R173). -/
theorem exec_request_waits (head : s.link.rx = f :: rest)
    (waits : row.accepts f = true → s.canTake (row.room s f) = true → False) : exec c s = .next s := by
  rw [exec_requestRow known, State.take, head]
  simp only
  rw [if_neg (fun both => waits both.1 both.2)]

/-- A head frame that the row accepts, with room, is counted, its request served and its answer placed (R166). -/
theorem exec_request_taken (head : s.link.rx = f :: rest) (accepts : row.accepts f = true)
    (room : s.canTake (row.room s f) = true) :
    exec c s = .next ((row.serve (s.beginTake f rest (row.room s f)) f).1.placeAnswer f
      (row.serve (s.beginTake f rest (row.room s f)) f).2) := by
  rw [exec_requestRow known, State.take_head head accepts room]

end

/-- The requests by their codes (R173). -/
theorem requestRow_accepts_isRequest {c : Instr} {k : Nat} (named : (c, k) ∈ [(Instr.post, 1), (.withdrawByKey, 2),
    (.withdrawBySlot, 2), (.lookupByKey, 3), (.lookupBySlot, 3), (.list, 4), (.refresh, 5), (.lock, 6), (.unlock, 7),
    (.zoneStatusPage0, 8), (.zoneStatusPage1, 8), (.plantStatus, 9), (.supply, 10), (.layoutRead, 11), (.layoutWrite, 12),
    (.layoutStore, 13), (.restart, 14)]) :
    1 ≤ k ∧ k ≤ 14 ∧ ∃ row, requestRow c = some row ∧ ∀ f, row.accepts f = true → f.isRequest k = true := by
  simp only [List.mem_cons, List.not_mem_nil, or_false, Prod.mk.injEq] at named
  rcases named with ⟨rfl, rfl⟩ | ⟨rfl, rfl⟩ | ⟨rfl, rfl⟩ | ⟨rfl, rfl⟩ | ⟨rfl, rfl⟩ | ⟨rfl, rfl⟩ | ⟨rfl, rfl⟩ | ⟨rfl, rfl⟩ |
    ⟨rfl, rfl⟩ | ⟨rfl, rfl⟩ | ⟨rfl, rfl⟩ | ⟨rfl, rfl⟩ | ⟨rfl, rfl⟩ | ⟨rfl, rfl⟩ | ⟨rfl, rfl⟩ | ⟨rfl, rfl⟩ | ⟨rfl, rfl⟩ <;>
    exact ⟨by omega, by omega, _, rfl, fun f a => by simp_all⟩

/-- Settles O16: the counted entry, and the reasons for which a frame waits. -/
theorem takingCountsTheFrameOrItWaits : Obligations.TakingCountsTheFrameOrItWaits := by
  unfold Obligations.TakingCountsTheFrameOrItWaits
  refine ⟨fun s f rest n => ⟨s.beginTake_eq f rest n, fun st other => ?_, fun length defined => ?_, fun uncounted => ?_⟩,
    fun s c row waits => ?_, fun s f rest t head request start defined target full => ?_,
    fun f k i => ⟨f.isRequest_iff k, rfl, f.num16_eq i⟩, fun s f rest c k head named => ⟨fun other => ?_, fun request => ?_⟩⟩
  · rw [State.entry_beginTake, if_neg (fun c => other c.1)]
  · rw [State.entry_beginTake, if_pos ⟨rfl, length, defined⟩]; rfl
  · rw [State.entry_beginTake, if_neg]
    rintro ⟨_, length, defined⟩
    simp [length, defined] at uncounted
  · obtain ⟨parts, known⟩ := (mem_requestRows_iff c).1 row
    cases head : s.link.rx with
    | nil => exact exec_request_empty known head
    | cons f rest =>
      refine exec_request_waits known head fun _ room => ?_
      obtain ⟨online, free, room⟩ := (s.canTake_iff _).1 room
      have pos := requestRow_room_pos known s f
      simp only [head, online, free] at waits
      rcases waits with none | off | awaited | full
      · cases none
      · cases off
      · cases awaited
      · omega
  · have gate : s.gate f = none := by simp [State.gate, start, defined]
    have checks : s.listChecks f = .ok t := by simp only [State.listChecks, gate, target]
    refine exec_request_waits (c := .list) rfl head fun _ room => ?_
    obtain ⟨_, _, room⟩ := (s.canTake_iff _).1 room
    simp only [State.listRoom, checks, listFrames, ceilDiv] at room
    omega
  · obtain ⟨_, _, row, known, accepts⟩ := requestRow_accepts_isRequest named
    exact exec_request_waits known head fun a _ => by rw [accepts f a] at other; cases other
  · obtain ⟨low, high, _⟩ := requestRow_accepts_isRequest named
    obtain ⟨length, code⟩ := (f.isRequest_iff k).1 request
    refine exec_request_waits (c := .badRequest) rfl head fun bad _ => ?_
    simp only [RxFrame.isBad, length, code] at bad
    simp at bad
    omega

/-! ## An answer placed -/

section
variable (s : State) (f : RxFrame) (a : Answer)

theorem State.placeAnswer_eq : s.placeAnswer f a = { s with
    link := (s.placeAnswer f a).link,
    register := { s.register with entries := (s.placeAnswer f a).register.entries } } := by
  unfold State.placeAnswer
  simp only
  split <;> rfl

/-- The reported notice-overrun flag is cleared (R59). -/
theorem State.entry_placeAnswer (st : Station) : (s.placeAnswer f a).entry st =
    if st = f.station ∧ s.answerMark f.station = true then { s.entry st with overrun := false } else s.entry st := by
  unfold State.placeAnswer
  simp only
  by_cases mark : s.answerMark f.station = true
  · rw [if_pos mark]
    by_cases sender : st = f.station
    · rw [if_pos ⟨sender, mark⟩, sender]
      exact State.entry_setEntry_same _ _ _
    · rw [if_neg (fun c => sender c.1)]
      exact (State.entry_setEntry _ _ _ _).trans (if_neg sender)
  · rw [if_neg mark, if_neg (fun c => mark c.2)]; rfl

end

theorem answerByte0_eq (mark : Bool) (f : RxFrame) :
    answerByte0 mark f = BitVec.ofNat 8 (128 + (if mark = true then 64 else 0) + f.num 0 % 64) := by
  cases mark <;> rfl

/-- Settles O17: the answer's frame at the tail, the flag it reports, and the bytes that carry a record. -/
theorem answerFrameIsPlacedAtTheTail : Obligations.AnswerFrameIsPlacedAtTheTail := by
  unfold Obligations.AnswerFrameIsPlacedAtTheTail
  intro s f st hi b mark code t
  refine ⟨?_, ?_, fun x other => ?_, ?_, fun n r => ?_⟩
  · exact s.placeAnswer_eq f _
  · have status : st.code = code := by simp only [code]; cases st <;> rfl
    have bytes : nibbles hi st.code = BitVec.ofNat 8 (hi % 16 * 16 + code) := by
      rw [nibbles, Nat.mod_eq_of_lt st.code_lt, status]
    refine (s.placeAnswer_link f _).trans ?_
    simp only [State.answerFrames, List.map_cons, List.map_nil, answerFrame, answerByte0_eq, bytes]
    rfl
  · exact (s.entry_placeAnswer f _ x).trans (if_neg fun c => other c.1)
  · refine (s.entry_placeAnswer f _ f.station).trans ?_
    simp only [true_and]; rfl
  · intro state kind flag level granted value levelLt grantedLt valueLt
    refine congrArg₂ (s.reply f st) ((Nat.one_mul _).symm.trans (r.flags.code_weights 1)) ?_
    refine vector_six_congr rfl ?_ ?_ (nibbles_eq levelLt grantedLt) (hiByte_word valueLt) (loByte_word _)
    · have code : r.kind.code = kind := by simp only [kind]; cases r.kind <;> rfl
      rw [nibbles_eq (by omega) r.kind.code_lt, code]
    · have code : r.state.code = state := by simp only [state]; cases r.state <;> rfl
      rw [nibbles_eq r.state.code_lt (by omega), code]

/-- Settles O18: BAD_REQUEST takes the frame, and answers it. -/
theorem badRequestIsAnswered : Obligations.BadRequestIsAnswered := by
  unfold Obligations.BadRequestIsAnswered
  intro s f rest takes other
  have bad : f.isBad = true := by
    simp only [RxFrame.isBad, Bool.or_eq_true, bne_iff_ne, beq_iff_eq, decide_eq_true_iff, or_assoc]
    exact other
  exact congrArg Host.Outcome.next (takes.take_eq bad State.serveBad)

end Sys2Proof.Machine
end

section
/-! SUPPORT. The demand table's operations by what they change: the creation with its displacement (R26, R31), the retirement
(R21, R27, R45), the clamping of a post (R12), and the searches for a key and for a free slot (R6, R9). -/

namespace Sys2Proof.Machine

/-! ## Insertion -/

theorem RecState.judgedFirst_iff (x : RecState) : x.judgedFirst = true ↔ x = .active ∨ x = .limited ∨ x = .blocked := by
  cases x <;> simp [RecState.judgedFirst]

theorem State.classAtMost_iff (s : State) (c : Nat) (n : Slot) :
    s.classAtMost c n = true ↔ ∃ r, s.record n = some r ∧ r.kind.cls ≤ c := by
  unfold State.classAtMost
  cases s.record n <;> simp

/-- The notice of a displacement is that of the change of state of the former first record (R31, R34). -/
theorem State.Creates.displacements_eq {s t : State} {n : Slot} {r : Record} (c : t.Creates s n r) (free : s.record n = none) :
    s.displacements r.target r.kind.cls = match (s.list r.target).head? with
      | none => []
      | some m => t.stateChange s m := by
  unfold State.displacements State.governing State.first
  cases head : (s.list r.target).head? with
  | none => rfl
  | some m =>
    simp only [State.stateChange, State.changeNotice]
    cases live : s.record m with
    | none => rfl
    | some q =>
      have other : m ≠ n := fun e => by rw [e, free] at live; cases live
      have after := c.old m other
      rw [live, Option.map_some] at after
      by_cases goes : (s.list r.target).any (s.classAtMost r.kind.cls) = false ∧ q.state.judgedFirst = true
      · have changes : (q.state != .queued) = true := by
          rcases (RecState.judgedFirst_iff _).1 goes.2 with e | e | e <;> rw [e] <;> rfl
        rw [if_pos ⟨head, goes⟩] at after
        rw [after]
        exact (if_pos goes).trans (if_pos changes).symm
      · rw [if_neg (fun k => goes k.2)] at after
        rw [after]
        exact (if_neg goes).trans (if_neg (by simp)).symm

/-- Settles O23: the cut of the list, and a creation by what it changes. -/
theorem insertionGoesAfterTheLastOfItsClass : Obligations.InsertionGoesAfterTheLastOfItsClass := by
  unfold Obligations.InsertionGoesAfterTheLastOfItsClass
  refine ⟨insertAfterLast_cut, fun s n r free pending => ?_, fun s c n => ?_, RecState.judgedFirst_iff⟩
  · have c := s.create_creates n r free pending
    refine ⟨c.frame, c.new, fun m other => ?_, c.list, c.others, c.postSeq, c.timer, ?_, c.entries⟩
    · simp only [← RecState.judgedFirst_iff]
      exact c.old m other
    · have notices := c.notices
      rwa [c.displacements_eq free] at notices
  · rw [State.classAtMost_iff]
    refine exists_congr fun r => and_congr_right fun _ => ?_
    cases r.kind <;> rfl

/-! ## Retirement -/

theorem State.retire_eq (s : State) (n : Slot) : s.retire n = { s with
    table := { s.table with slots := (s.retire n).table.slots, lists := (s.retire n).table.lists },
    register := { s.register with entries := (s.retire n).register.entries } } := by
  unfold State.retire
  split <;> rfl

theorem State.entry_retire_quota (s : State) (n : Slot) {r : Record} (live : s.record n = some r) (st : Station) :
    (s.retire n).entry st = { s.entry st with
      quota := if st = r.station then (s.entry st).quota + 1 else (s.entry st).quota } := by
  rw [State.entry_retire s n r live]
  split <;> rfl

/-! ## What a post stores -/

/-- Settles O22: each kind by the fields it has, and each field by its range. -/
theorem postedFieldsAreClamped : Obligations.PostedFieldsAreClamped := by
  unfold Obligations.PostedFieldsAreClamped
  intro most level value _
  have minutes : ∀ top, 1 ≤ top → clampNat 1 top value = if value = 0 then 1 else min value top := fun top pos => by
    unfold clampNat; split <;> omega
  have tenths : clampNat 160 300 value = if value < 160 then 160 else if 300 < value then 300 else value := by
    unfold clampNat; split <;> (try split) <;> omega
  refine ⟨⟨_, ?_, rfl⟩, ⟨_, ?_, rfl⟩, ⟨_, _, ?_, rfl, rfl⟩, rfl, ⟨_, ?_, rfl⟩, rfl⟩
  · simp [clampPost, clampLevel]
  · simp [clampPost, clampMinutes, minutes]
  · simp [clampPost, clampLevel, tenths, Bool.or_assoc]
  · simp [clampPost, clampMinutes, minutes]

/-! ## The searches -/

/-- A record of station st with the key of target t and kind k stands in slot n (R9). -/
def State.HasKey (s : State) (t : Target) (st : Station) (k : Kind) (n : Slot) : Prop :=
  ∃ r, s.record n = some r ∧ r.target = t ∧ r.station = st ∧ r.kind = k

/-- The search of the slots in ascending order finds the least one that satisfies p. -/
theorem find_slot_eq_some_iff (p : Slot → Bool) (n : Slot) :
    (List.finRange 40).find? p = some n ↔ p n = true ∧ ∀ m, m < n → p m = false := by
  rw [← Fin.find?_eq_find?_finRange, Fin.find?_eq_some_iff]

/-- The search for a key finds the least slot that holds it. -/
theorem State.findKey_eq_some_iff (s : State) (t : Target) (st : Station) (k : Kind) (n : Slot) :
    s.findKey t st k = some n ↔ s.HasKey t st k n ∧ ∀ m, m < n → ¬ s.HasKey t st k m := by
  have holds : ∀ m : Slot, (match s.record m with
      | none => false
      | some r => r.target == t && r.station == st && r.kind == k) = true ↔ s.HasKey t st k m := fun m => by
    unfold State.HasKey
    cases s.record m <;> simp [and_assoc]
  exact (find_slot_eq_some_iff _ n).trans (and_congr (holds n) (forall₂_congr fun m _ =>
    Bool.not_eq_true _ ▸ not_congr (holds m)))

theorem State.findKey_eq_none_iff (s : State) (t : Target) (st : Station) (k : Kind) :
    s.findKey t st k = none ↔ ∀ n, ¬ s.HasKey t st k n := by
  refine ⟨fun none n ⟨r, live, target, station, kind⟩ => State.findKey_none none live target station kind, fun free => ?_⟩
  cases found : s.findKey t st k with
  | none => rfl
  | some n => exact absurd ((s.findKey_eq_some_iff t st k n).1 found).1 (free n)

/-- The only slot that holds a key is the one found. -/
theorem State.findKey_of_unique {s : State} {n : Slot} {r : Record} (live : s.record n = some r)
    (unique : ∀ m q, s.record m = some q → q.target = r.target → q.station = r.station → q.kind = r.kind → m = n) :
    s.findKey r.target r.station r.kind = some n := by
  refine (s.findKey_eq_some_iff _ _ _ _).2 ⟨⟨r, live, rfl, rfl, rfl⟩, fun m less ⟨q, other, target, station, kind⟩ => ?_⟩
  exact absurd (unique m q other target station kind) (ne_of_lt less)

theorem State.freeExternal_eq_some_iff (s : State) (n : Slot) : s.freeExternal = some n ↔
    (n.val < 38 ∧ s.record n = none) ∧ ∀ m : Slot, m < n → ¬ (m.val < 38 ∧ s.record m = none) := by
  have free : ∀ m : Slot, (decide (m.val < Config.externalSlots) && (s.record m).isNone) = true ↔
      m.val < 38 ∧ s.record m = none := fun m => by
    rw [Bool.and_eq_true, decide_eq_true_iff, Option.isNone_iff_eq_none]; exact Iff.rfl
  refine (find_slot_eq_some_iff _ n).trans (and_congr (free n) (forall₂_congr fun m _ => ?_))
  rw [← free m, Bool.not_eq_true]

theorem State.freeExternal_eq_none_iff (s : State) : s.freeExternal = none ↔ ∀ n : Slot, n.val < 38 → s.record n ≠ none := by
  unfold State.freeExternal
  rw [List.find?_eq_none]
  refine ⟨fun full n external free => full n (List.mem_finRange n) ?_, fun full n _ free => ?_⟩
  · rw [free, Bool.and_eq_true, decide_eq_true_iff]
    exact ⟨external, rfl⟩
  · rw [Bool.and_eq_true, decide_eq_true_iff, Option.isNone_iff_eq_none] at free
    exact full n free.1 free.2

end Sys2Proof.Machine
end

section
/-! SUPPORT. The requests on the demand table: WITHDRAW and LOOKUP by their checks (R16 to R18), POST by its checks and what an
accepted one does (R8 to R14). -/

namespace Sys2Proof.Machine

/-! ## What the table's requests read once their frame is counted -/

theorem State.findKey_congr {s t : State} (slots : t.table.slots = s.table.slots) (u : Target) (st : Station) (k : Kind) :
    t.findKey u st k = s.findKey u st k := by
  simp only [State.findKey, State.record, slots]

theorem State.freeExternal_congr {s t : State} (slots : t.table.slots = s.table.slots) :
    t.freeExternal = s.freeExternal := by
  simp only [State.freeExternal, State.record, slots]

section
variable (s : State) (f : RxFrame) (rest : List RxFrame) (n : Nat)

@[simp] theorem State.beginTake_findKey (t : Target) (st : Station) (k : Kind) :
    (s.beginTake f rest n).findKey t st k = s.findKey t st k := State.findKey_congr (by simp) t st k

@[simp] theorem State.beginTake_freeExternal : (s.beginTake f rest n).freeExternal = s.freeExternal :=
  State.freeExternal_congr (by simp)

@[simp] theorem State.beginTake_keyNamed (g : RxFrame) (i : Nat) :
    (s.beginTake f rest n).keyNamed g i = s.keyNamed g i := by
  simp only [State.keyNamed, State.beginTake_findKey]

/-- Counting a frame writes the presence and the lapse timer alone (R47). -/
theorem State.beginTake_entry_fields (st : Station) :
    ((s.beginTake f rest n).entry st).quota = (s.entry st).quota ∧
    ((s.beginTake f rest n).entry st).mask = (s.entry st).mask ∧
    ((s.beginTake f rest n).entry st).overrun = (s.entry st).overrun := by
  rw [State.entry_beginTake]
  split <;> exact ⟨rfl, rfl, rfl⟩

@[simp] theorem State.beginTake_quota (st : Station) : ((s.beginTake f rest n).entry st).quota = (s.entry st).quota :=
  (s.beginTake_entry_fields f rest n st).1

end

/-! ## What a taking leaves of the register -/

section
variable (s : State) (f : RxFrame) (rest : List RxFrame) (n : Nat) (a : Answer)

@[simp] theorem State.beginTake_locks : (s.beginTake f rest n).register.locks = s.register.locks := by
  rw [State.beginTake_eq]

@[simp] theorem State.beginTake_supply : (s.beginTake f rest n).register.supply = s.register.supply := by
  rw [State.beginTake_eq]

@[simp] theorem State.placeAnswer_locks : (s.placeAnswer f a).register.locks = s.register.locks := by
  rw [State.placeAnswer_eq]

@[simp] theorem State.placeAnswer_supply : (s.placeAnswer f a).register.supply = s.register.supply := by
  rw [State.placeAnswer_eq]

/-- Placing an answer writes the notice-overrun flag alone (R59). -/
theorem State.placeAnswer_entry_fields (st : Station) :
    ((s.placeAnswer f a).entry st).quota = (s.entry st).quota ∧
    ((s.placeAnswer f a).entry st).presence = (s.entry st).presence ∧
    ((s.placeAnswer f a).entry st).lapse = (s.entry st).lapse ∧
    ((s.placeAnswer f a).entry st).mask = (s.entry st).mask := by
  rw [State.entry_placeAnswer]
  split <;> exact ⟨rfl, rfl, rfl, rfl⟩

@[simp] theorem State.placeAnswer_record_eq (m : Slot) : (s.placeAnswer f a).record m = s.record m :=
  State.record_congr (by simp) m

@[simp] theorem State.placeAnswer_list (t : Target) : (s.placeAnswer f a).list t = s.list t :=
  State.list_congr (by simp) t

end

theorem State.answerFrames_congr {s t : State} {f : RxFrame} (mark : t.answerMark f.station = s.answerMark f.station)
    (a : Answer) : t.answerFrames f a = s.answerFrames f a := by
  simp only [State.answerFrames, mark]

/-- A state that differs from s in the table, the register and the link alone. -/
theorem State.eq_of_frame {t s : State}
    (blocks : t.climate = s.climate ∧ t.coolant = s.coolant ∧ t.air = s.air ∧ t.intake = s.intake ∧ t.scanner = s.scanner ∧
      t.drive = s.drive ∧ t.fans = s.fans ∧ t.store = s.store ∧ t.modes = s.modes ∧ t.pins = s.pins ∧ t.pending = s.pending) :
    t = { s with table := t.table, register := t.register, link := t.link } := by
  obtain ⟨climate, coolant, air, intake, scanner, drive, fans, store, modes, pins, pending⟩ := blocks
  cases t
  simp_all

/-- A state that differs from s in the slots, the lists, the entries and the link alone. -/
theorem State.eq_of_retired {t s : State}
    (blocks : t.climate = s.climate ∧ t.coolant = s.coolant ∧ t.air = s.air ∧ t.intake = s.intake ∧ t.scanner = s.scanner ∧
      t.drive = s.drive ∧ t.fans = s.fans ∧ t.store = s.store ∧ t.modes = s.modes ∧ t.pins = s.pins ∧ t.pending = s.pending)
    (locks : t.register.locks = s.register.locks) (supply : t.register.supply = s.register.supply)
    (postSeq : t.table.postSeq = s.table.postSeq) (timer : t.table.durationTimer = s.table.durationTimer) :
    t = { s with
      table := { s.table with slots := t.table.slots, lists := t.table.lists },
      register := { s.register with entries := t.register.entries }, link := t.link } := by
  have table : t.table = { s.table with slots := t.table.slots, lists := t.table.lists } := by
    cases h : t.table
    simp_all
  have frame := State.eq_of_blocks blocks locks supply
  rwa [table] at frame

/-! ## Answers that carry a record -/

section
variable (s : State) (f : RxFrame)

theorem State.placeAnswer_noRecord (st : Status) : s.placeAnswer f (.noRecord st) = s.refuseRecord f st := rfl

theorem State.placeAnswer_record (st : Status) (n : Slot) (r : Record) :
    s.placeAnswer f (.record st n r) = s.replyRecord f st n r := rfl

theorem State.recordAnswer_of_live {s : State} {n : Slot} {r : Record} (live : s.record n = some r) (st : Status) :
    s.recordAnswer st n = .record st n r := by
  simp only [State.recordAnswer, live]

end

/-! ## LOOKUP -/

theorem slotOf_eq_some_iff (n : Nat) (x : Slot) : slotOf n = some x ↔ x.val = n := by
  unfold slotOf
  split
  · simp [Fin.ext_iff, eq_comm]
  · simp; omega

theorem targetOf_eq_some_iff (n : Nat) (t : Target) : targetOf n = some t ↔ t.val = n := by
  unfold targetOf
  split
  · simp [Fin.ext_iff, eq_comm]
  · simp; omega

theorem RxFrame.formIs_zero_of {f : RxFrame} (form : f.num 1 ≠ 1) : f.formIs 0 = true := by
  simp only [formIs, Bool.or_eq_true, beq_iff_eq, decide_eq_true_iff]; omega

theorem RxFrame.formIs_one_of {f : RxFrame} (form : f.num 1 ≠ 0) : f.formIs 1 = true := by
  simp only [formIs, Bool.or_eq_true, beq_iff_eq, decide_eq_true_iff]; omega

/-- The checks that the requests on a named record share, ahead of what is done with it (R16 to R18, R46, log 11). -/
def State.judgeForm (s : State) (f : RxFrame) (named : State × Answer) : State × Answer :=
  match s.gate f with
  | some st => (s, .noRecord st)
  | none => if 1 < f.num 1 then (s, .noRecord .badValue) else named

theorem State.judgeForm_placed (s : State) (f : RxFrame) (named : State × Answer) :
    (s.judgeForm f named).1.placeAnswer f (s.judgeForm f named).2 =
      if s.modes.mode = .start then s.refuseRecord f .notNow
      else if s.defined f.station = false then s.refuseRecord f .notPermitted
      else if 1 < f.num 1 then s.refuseRecord f .badValue
      else named.1.placeAnswer f named.2 := by
  unfold State.judgeForm
  rcases s.gate_cases f with ⟨start, gate⟩ | ⟨start, undefined, gate⟩ | ⟨start, defined, gate⟩
  · simp [start, gate, State.placeAnswer_noRecord]
  · simp [start, undefined, gate, State.placeAnswer_noRecord]
  by_cases other : 1 < f.num 1
  · simp [start, defined, gate, other, State.placeAnswer_noRecord]
  · simp [start, defined, gate, other]

/-- Where nothing can be done with the record named, the first check that fails gives the status. -/
theorem State.judgeForm_refused {s : State} {f : RxFrame} {named : State × Answer} {st : Status}
    (refused : s.modes.mode ≠ .start → s.defined f.station = true → ¬ 1 < f.num 1 →
      named.1.placeAnswer f named.2 = s.refuseRecord f st) :
    (s.judgeForm f named).1.placeAnswer f (s.judgeForm f named).2 = s.refuseRecord f (
      if s.modes.mode = .start then .notNow else if s.defined f.station = false then .notPermitted
      else if 1 < f.num 1 then .badValue else st) := by
  rw [State.judgeForm_placed]
  by_cases start : s.modes.mode = .start
  · rw [if_pos start, if_pos start]
  by_cases undefined : s.defined f.station = false
  · rw [if_neg start, if_pos undefined, if_neg start, if_pos undefined]
  by_cases other : 1 < f.num 1
  · rw [if_neg start, if_neg undefined, if_pos other, if_neg start, if_neg undefined, if_pos other]
  · rw [if_neg start, if_neg undefined, if_neg other, if_neg start, if_neg undefined, if_neg other]
    exact refused start (by simpa using undefined) other

/-- What LOOKUP does with the slot named (R18). -/
def State.lookedUp (s : State) (o : Option Slot) : State × Answer :=
  match o with
  | none => (s, .noRecord .notFound)
  | some n => (s, s.recordAnswer .ok n)

theorem State.serveLookupKey_eq (s : State) (f : RxFrame) :
    s.serveLookupKey f = s.judgeForm f (s.lookedUp (s.keyNamed f 2)) := rfl

theorem State.serveLookupSlot_eq (s : State) (f : RxFrame) :
    s.serveLookupSlot f = s.judgeForm f (s.lookedUp (slotOf (f.num 2))) := rfl

/-- Settles O25: the checks in their order, and then the record found. -/
theorem lookupAnswersTheRecord : Obligations.LookupAnswersTheRecord := by
  unfold Obligations.LookupAnswersTheRecord
  intro s f rest takes request u answer judged
  have looked : ∀ o, (u.judgeForm f (u.lookedUp o)).1.placeAnswer f (u.judgeForm f (u.lookedUp o)).2 = judged o := fun o => by
    have found : (u.lookedUp o).1.placeAnswer f (u.lookedUp o).2 = answer o := by
      cases o with
      | none => rfl
      | some n =>
        simp only [answer, State.lookedUp, State.recordAnswer, u, State.beginTake_record]
        cases s.record n <;> rfl
    rw [State.judgeForm_placed, found]
    simp only [judged, u, State.beginTake_frame, State.beginTake_defined]
  refine ⟨fun form => congrArg Host.Outcome.next ?_, fun form => congrArg Host.Outcome.next ?_, slotOf_eq_some_iff,
    targetOf_eq_some_iff, fun t st k => ⟨s.findKey_eq_some_iff t st k, s.findKey_eq_none_iff t st k⟩⟩
  · rw [takes.take_eq (accepts := fun f => f.isRequest 3 && f.formIs 0) (by simp [request, RxFrame.formIs_zero_of form]),
      State.serveLookupKey_eq, looked, State.beginTake_keyNamed]
    rfl
  · rw [takes.take_eq (accepts := fun f => f.isRequest 3 && f.formIs 1) (by simp [request, RxFrame.formIs_one_of form]),
      State.serveLookupSlot_eq, looked]

/-! ## WITHDRAW -/

/-- What WITHDRAW does with the key named (R16). -/
def State.withdrawnKey (s : State) (o : Option Slot) : State × Answer :=
  match o with
  | none => (s, .noRecord .notFound)
  | some n => s.withdraw n

/-- What WITHDRAW does with the slot named (R17). -/
def State.withdrawnSlot (s : State) (st : Station) (o : Option Slot) : State × Answer :=
  match o with
  | none => (s, .noRecord .notFound)
  | some n =>
    match s.record n with
    | none => (s, .noRecord .notFound)
    | some r => if r.station = st then s.withdraw n else (s, .noRecord .notOwner)

theorem State.serveWithdrawKey_eq (s : State) (f : RxFrame) :
    s.serveWithdrawKey f = s.judgeForm f (s.withdrawnKey (s.keyNamed f 2)) := rfl

theorem State.serveWithdrawSlot_eq (s : State) (f : RxFrame) :
    s.serveWithdrawSlot f = s.judgeForm f (s.withdrawnSlot f.station (slotOf (f.num 2))) := rfl

/-- A key named by its codes. -/
theorem State.keyNamed_eq {s : State} {f : RxFrame} {t : Target} {k : Kind} {i : Nat} (target : f.num i / 16 = t.val)
    (kind : f.num i % 16 = k.code) : s.keyNamed f i = s.findKey t f.station k := by
  have named : targetOf (f.high i) = some t := (targetOf_eq_some_iff _ t).2 target.symm
  have code : Kind.ofCode (f.low i) = some k := by
    show Kind.ofCode (f.num i % 16) = some k
    rw [kind]; cases k <;> rfl
  simp only [State.keyNamed, named, code]

/-- A WITHDRAW of the sender's own record, in the form that names it (R16, R17): the record is retired and answered as it
stood. -/
theorem State.CanTake.exec_withdraw {s : State} {f : RxFrame} {rest : List RxFrame} (takes : s.CanTake f rest 1)
    (request : f.isRequest 2 = true) (start : s.modes.mode ≠ .start) (defined : s.defined f.station = true) {n : Slot}
    {r : Record} (live : s.record n = some r) (own : r.station = f.station) {c : Instr}
    (names : (c = .withdrawByKey ∧ f.num 1 = 0 ∧ f.num 2 / 16 = r.target.val ∧ f.num 2 % 16 = r.kind.code ∧
        (∀ m q, s.record m = some q → q.target = r.target → q.station = r.station → q.kind = r.kind → m = n)) ∨
      (c = .withdrawBySlot ∧ f.num 1 = 1 ∧ f.num 2 = n.val)) :
    exec c s = .next (((s.beginTake f rest 1).retire n).placeAnswer f (.record .ok n r)) := by
  have live' : (s.beginTake f rest 1).record n = some r := by rw [State.beginTake_record, live]
  have done : ((s.beginTake f rest 1).withdraw n) = ((s.beginTake f rest 1).retire n, .record .ok n r) := by
    rw [State.withdraw, State.recordAnswer_of_live live']
  rcases names with ⟨rfl, form, target, kind, unique⟩ | ⟨rfl, form, slot⟩ <;> refine congrArg Host.Outcome.next ?_
  · have key : s.keyNamed f 2 = some n := by
      rw [State.keyNamed_eq target kind, ← own]
      exact State.findKey_of_unique live unique
    rw [takes.take_eq (accepts := fun f => f.isRequest 2 && f.formIs 0)
        (by simp [request, RxFrame.formIs_zero_of (f := f) (by omega)]),
      State.serveWithdrawKey_eq, State.judgeForm_placed, State.beginTake_keyNamed, key]
    simp [start, defined, form, State.withdrawnKey, done]
  · have named : slotOf (f.num 2) = some n := (slotOf_eq_some_iff _ n).2 slot.symm
    rw [takes.take_eq (accepts := fun f => f.isRequest 2 && f.formIs 1)
        (by simp [request, RxFrame.formIs_one_of (f := f) (by omega)]),
      State.serveWithdrawSlot_eq, State.judgeForm_placed, named]
    simp [start, defined, form, State.withdrawnSlot, live, own, done]

/-- Settles O24: an own record named is retired, every other request refused, and a retirement by what it changes. -/
theorem withdrawRetiresOwnRecordOrIsRefused : Obligations.WithdrawRetiresOwnRecordOrIsRefused := by
  unfold Obligations.WithdrawRetiresOwnRecordOrIsRefused
  refine ⟨fun s f rest c n r takes request start defined live own names => ?_, fun s f rest takes request => ?_,
    fun s n => ⟨State.retire_none (s := s) n, fun r live => ⟨s.retire_eq n, ?_, fun m other => ?_,
      fun u => State.list_retire s n r live u, fun st => s.entry_retire_quota n live st⟩⟩⟩
  · have live' : (s.beginTake f rest 1).record n = some r := by rw [State.beginTake_record, live]
    refine ⟨_, takes.exec_withdraw request start defined live own names, ?_, ?_, fun m other => ?_, ?_, fun x other => ?_,
      ?_, ?_, fun x other => ?_, ?_⟩
    · have retired := (s.beginTake f rest 1).retire_rest n
      refine State.eq_of_retired (by simp) ?_ ?_ ?_ ?_
      all_goals simp [retired.locks, retired.supply, retired.postSeq, retired.duration]
    · simp
    · simp [other]
    · simp [State.list_retire _ _ _ live']
    · simp [State.list_retire _ _ _ live', other]
    · rw [(State.placeAnswer_entry_fields _ _ _ _).1, State.entry_retire_quota _ _ live']
      simp [own]
    · rw [(State.placeAnswer_entry_fields _ _ _ _).2.1, State.entry_retire_quota _ _ live', State.entry_beginTake,
        if_pos ⟨rfl, ((f.isRequest_iff 2).1 request).1, defined⟩]
      rfl
    · rw [State.entry_placeAnswer, if_neg (fun k => other k.1), State.entry_retire_quota _ _ live', own, if_neg other,
        State.entry_beginTake, if_neg (fun k => other k.1)]
    · have mark : ((s.beginTake f rest 1).retire n).answerMark f.station = (s.beginTake f rest 1).answerMark f.station := by
        simp [State.answerMark, State.entry_retire_quota _ _ live', State.defined]
      rw [← State.placeAnswer_record, State.placeAnswer_link, State.placeAnswer_link, State.answerFrames_congr mark]
      simp
  · intro u
    refine ⟨fun form absent => congrArg Host.Outcome.next ?_, fun form absent => congrArg Host.Outcome.next ?_⟩
    · rw [takes.take_eq (accepts := fun f => f.isRequest 2 && f.formIs 0)
          (by simp [request, RxFrame.formIs_zero_of form]),
        State.serveWithdrawKey_eq, State.beginTake_keyNamed,
        State.judgeForm_refused (st := .notFound) fun start defined form => ?_]
      · simp only [u, State.beginTake_frame, State.beginTake_defined]
      · simp only [State.beginTake_frame] at start
        rw [State.beginTake_defined] at defined
        cases key : s.keyNamed f 2 with
        | none => rfl
        | some n => simpa [start, defined, form] using absent n key
    · rw [takes.take_eq (accepts := fun f => f.isRequest 2 && f.formIs 1)
          (by simp [request, RxFrame.formIs_one_of form]),
        State.serveWithdrawSlot_eq, State.judgeForm_refused (st := if (slotOf (f.num 2)).any (fun n => (s.record n).isSome) =
          true then .notOwner else .notFound) fun start defined form => ?_]
      · simp only [u, State.beginTake_frame, State.beginTake_defined]
      · simp only [State.beginTake_frame] at start
        rw [State.beginTake_defined] at defined
        cases named : slotOf (f.num 2) with
        | none => rfl
        | some n =>
          simp only [State.withdrawnSlot, State.beginTake_record]
          cases live : s.record n with
          | none => simp [State.placeAnswer_noRecord, live]
          | some r =>
            have other : r.station ≠ f.station := by simpa [start, defined, form] using absent n r named live
            simp [State.placeAnswer_noRecord, live, other]
  · simp
  · simp [other]

/-! ## POST -/

@[simp] theorem State.beginTake_postChecks (s : State) (f g : RxFrame) (rest : List RxFrame) (n : Nat) :
    (s.beginTake f rest n).postChecks g = s.postChecks g := by
  simp only [State.postChecks, State.beginTake_frame, State.beginTake_defined, State.beginTake_config,
    State.beginTake_lockOf]

theorem PostFields.status_eq (p : PostFields) : p.status = if p.clamped = true then .clamped else .ok := rfl

/-- A creation gives the record the counter as it stands (R7). -/
theorem State.create_posted (s : State) (f : RxFrame) (t : Target) (k : Kind) (n : Slot) :
    s.create n (Record.posted t f.station k (s.posted f k)) = s.create n (s.newRecord f t k) := rfl

theorem State.record_create_new {s : State} {n : Slot} (free : s.record n = none) (f : RxFrame) (t : Target) (k : Kind) :
    (s.create n (s.newRecord f t k)).record n = some (s.newRecord f t k) :=
  (s.create_creates n (s.newRecord f t k) free rfl).new

/-- What an accepted POST does, past the checks 1 to 7 (R9 to R14). -/
theorem State.servePost_passed {s : State} {f : RxFrame} {t : Target} {k : Kind} (passes : s.postChecks f = .ok (t, k)) :
    (s.servePost f).1.placeAnswer f (s.servePost f).2 = match s.findKey t f.station k with
      | some n => match s.record n with
        | none => s.refuseRecord f .notFound
        | some r => (s.setSlot n (some (r.amended (s.posted f k)))).replyRecord f (s.posted f k).status n
            (r.amended (s.posted f k))
      | none =>
        if (s.entry f.station).quota = 0 then s.refuseRecord f .noQuota
        else match s.freeExternal with
          | none => s.refuseRecord f .tableFull
          | some n => (s.create n (s.newRecord f t k)).replyRecord f (s.posted f k).status n (s.newRecord f t k) := by
  have fields : s.postFields f k = s.posted f k := rfl
  simp only [State.servePost, passes, fields]
  cases found : s.findKey t f.station k with
  | some n =>
    simp only
    cases live : s.record n with
    | none => rfl
    | some r =>
      simp only
      rw [State.recordAnswer_of_live (State.record_setSlot_same s n _)]
      rfl
  | none =>
    simp only
    by_cases quota : (s.entry f.station).quota = 0
    · rw [if_pos quota, if_pos quota]; rfl
    rw [if_neg quota, if_neg quota]
    cases free : s.freeExternal with
    | none => rfl
    | some n =>
      simp only
      rw [State.create_posted, State.recordAnswer_of_live (State.record_create_new (State.freeExternal_some free).2 f t k)]
      rfl

theorem State.postChecks_refused {s : State} {f : RxFrame} {st : Status} (fails : s.postChecks f = .error st) :
    (s.servePost f).1.placeAnswer f (s.servePost f).2 = s.refuseRecord f st := by
  simp only [State.servePost, fails]; rfl

theorem State.CanTake.exec_post {s : State} {f : RxFrame} {rest : List RxFrame} (takes : s.CanTake f rest 1)
    (request : f.isRequest 1 = true) : exec .post s = .next (((s.beginTake f rest 1).servePost f).1.placeAnswer f
      ((s.beginTake f rest 1).servePost f).2) :=
  congrArg Host.Outcome.next (takes.take_eq request State.servePost)

/-- The checks 4 to 7 of a POST that names a present target and a kind (R8). -/
theorem State.postChecks_named {s : State} {f : RxFrame} {t : Target} {k : Kind}
    (rests : ¬ (s.modes.mode = .start ∨ s.modes.mode = .parked)) (undefined : ¬ s.defined f.station = false)
    (target : s.store.live.presentTarget (f.high 1) = some t) (kind : Kind.ofCode (f.low 1) = some k) :
    s.postChecks f = if k.allowedOn t = false then .error .badKind
      else if (s.config f.station).targetRights.testBit t.val = false then .error .notPermitted
      else if (s.config f.station).kindRights.testBit (k.code - 1) = false then .error .notPermitted
      else if (s.lockOf t).any (fun h => h != f.station) = true then .error .locked else .ok (t, k) := by
  simp only [State.postChecks, if_neg rests, if_neg undefined, target, kind]
  cases s.lockOf t with
  | none => rfl
  | some h => by_cases own : h = f.station <;> simp [own]

@[simp] theorem State.beginTake_posted (s : State) (f g : RxFrame) (rest : List RxFrame) (n : Nat) (k : Kind) :
    (s.beginTake f rest n).posted g k = s.posted g k := by
  simp only [State.posted, State.beginTake_config]

@[simp] theorem State.beginTake_newRecord (s : State) (f g : RxFrame) (rest : List RxFrame) (n : Nat) (t : Target)
    (k : Kind) : (s.beginTake f rest n).newRecord g t k = s.newRecord g t k := by
  simp only [State.newRecord, State.beginTake_posted, State.beginTake_frame]

theorem Kind.ofCode_eq_some_iff (n : Nat) (k : Kind) : Kind.ofCode n = some k ↔ n = k.code := by
  constructor
  · unfold Kind.ofCode
    split <;> intro e <;> cases e <;> rfl
  · rintro rfl
    cases k <;> rfl

/-- A present target is the intake, or a zone that the layout gives (R3). -/
theorem Layout.presentTarget_eq_some_iff (l : Layout) (n : Nat) (t : Target) : l.presentTarget n = some t ↔
    t.val = n ∧ (t = 8 ∨ ∃ z : Zone, z.val = n ∧ l.zones[z.val].present ≠ 0) := by
  rw [Layout.presentTarget, Option.filter_eq_some_iff, targetOf_eq_some_iff]
  refine and_congr_right fun named => ?_
  unfold Layout.targetPresent Layout.zonePresent
  split
  · rename_i zone
    have notIntake : t ≠ 8 := fun e => by rw [e] at zone; exact absurd zone (by decide)
    simp only [bne_iff_ne, notIntake, false_or]
    refine ⟨fun present => ⟨⟨t.val, zone⟩, named, present⟩, fun ⟨z, same, present⟩ => ?_⟩
    have here : z = ⟨t.val, zone⟩ := Fin.ext (same.trans named.symm)
    rw [here] at present
    exact present
  · rename_i intake
    have isIntake : t = 8 := Fin.ext (by have := t.isLt; simp; omega)
    simp [isIntake]

/-- Settles O19: the checks in their order, the record amended or created, and what the codes name. -/
theorem postIsJudgedInOrder : Obligations.PostIsJudgedInOrder := by
  unfold Obligations.PostIsJudgedInOrder
  intro s f rest takes request u done
  refine ⟨?_, s.freeExternal_eq_none_iff, fun n t => ?_, fun k => ⟨?_, fun n => ?_, fun t => ?_⟩⟩
  · rw [takes.exec_post request]
    refine congrArg Host.Outcome.next ?_
    have checks : u.postChecks f = s.postChecks f := s.beginTake_postChecks f f rest 1
    have refused : ∀ st, s.postChecks f = .error st →
        (u.servePost f).1.placeAnswer f (u.servePost f).2 = u.refuseRecord f st :=
      fun st fails => State.postChecks_refused (checks.trans fails)
    by_cases rests : s.modes.mode = .start ∨ s.modes.mode = .parked
    · rw [refused .notNow (if_pos rests), if_pos rests]
    by_cases undefined : s.defined f.station = false
    · rw [refused .notPermitted ((if_neg rests).trans (if_pos undefined)), if_neg rests, if_pos undefined]
    rw [if_neg rests, if_neg undefined]
    cases target : s.store.live.presentTarget (f.num 1 / 16) with
    | none =>
      have target : s.store.live.presentTarget (f.high 1) = none := target
      exact refused .badTarget (by simp only [State.postChecks, if_neg rests, if_neg undefined, target])
    | some t =>
    have target : s.store.live.presentTarget (f.high 1) = some t := target
    cases kind : Kind.ofCode (f.num 1 % 16) with
    | none =>
      have kind : Kind.ofCode (f.low 1) = none := kind
      exact refused .badKind (by simp only [State.postChecks, if_neg rests, if_neg undefined, target, kind])
    | some k =>
    have kind : Kind.ofCode (f.low 1) = some k := kind
    have judged := State.postChecks_named rests undefined target kind
    dsimp only
    by_cases stands : k.allowedOn t = false
    · rw [if_pos stands] at judged ⊢; exact refused _ judged
    by_cases noTarget : (s.config f.station).targetRights.testBit t.val = false
    · rw [if_neg stands, if_pos noTarget] at judged ⊢; exact refused _ judged
    by_cases noKind : (s.config f.station).kindRights.testBit (k.code - 1) = false
    · rw [if_neg stands, if_neg noTarget, if_pos noKind] at judged ⊢; exact refused _ judged
    by_cases locked : (s.lockOf t).any (fun h => h != f.station) = true
    · rw [if_neg stands, if_neg noTarget, if_neg noKind, if_pos locked] at judged ⊢; exact refused _ judged
    rw [if_neg stands, if_neg noTarget, if_neg noKind, if_neg locked] at judged ⊢
    rw [State.servePost_passed (checks.trans judged)]
    simp only [u, done, State.beginTake_findKey, State.beginTake_record, State.beginTake_quota, State.beginTake_freeExternal,
      State.beginTake_posted, State.beginTake_newRecord, PostFields.status_eq] <;> rfl
  · exact s.store.live.presentTarget_eq_some_iff n t
  · cases k <;> rfl
  · rw [Kind.ofCode_eq_some_iff]
    cases k <;> rfl
  · revert t; cases k <;> decide

/-! ## An accepted POST -/

/-- A POST that passes its checks, once it is taken (R8). -/
theorem State.PostPasses.taken {s : State} {f : RxFrame} {t : Target} {k : Kind} (passes : s.PostPasses f t k)
    (rest : List RxFrame) : (s.beginTake f rest 1).postChecks f = .ok (t, k) :=
  (s.beginTake_postChecks f f rest 1).trans ((s.postChecks_eq_ok_iff f t k).2 passes)

/-- The sender of a request is PRESENT once it is answered (R47). -/
theorem State.presence_taken {s : State} {f : RxFrame} {rest : List RxFrame} {n k : Nat} (request : f.isRequest k = true)
    (defined : s.defined f.station = true) : ((s.beginTake f rest n).entry f.station).presence = .present := by
  rw [State.entry_beginTake, if_pos ⟨rfl, ((f.isRequest_iff k).1 request).1, defined⟩]
  rfl

/-- Settles O21: the record of the key is amended in place. -/
theorem postAmendsMatchingRecord : Obligations.PostAmendsMatchingRecord := by
  unfold Obligations.PostAmendsMatchingRecord
  intro s f rest t k n r takes request passes live target station kind unique
  subst target kind
  have found : s.findKey r.target f.station r.kind = some n := by
    rw [← station]
    exact State.findKey_of_unique live fun m q other sameTarget sameStation sameKind =>
      unique m q other sameTarget (sameStation.trans station) sameKind
  have done : exec .post s = .next (((s.beginTake f rest 1).setSlot n (some (r.amended (s.posted f r.kind)))).placeAnswer f
      (.record (s.posted f r.kind).status n (r.amended (s.posted f r.kind)))) := by
    rw [takes.exec_post request, State.servePost_passed (passes.taken rest)]
    simp only [State.beginTake_findKey, found, State.beginTake_record, live, State.beginTake_posted]
    rfl
  refine ⟨_, done, ?_, ?_, fun m other => ?_, fun x => ?_, ?_, fun x => ?_, ?_, ?_⟩
  · have frame := State.eq_of_frame (s := s) (t := ((s.beginTake f rest 1).setSlot n (some (r.amended
      (s.posted f r.kind)))).placeAnswer f (.record (s.posted f r.kind).status n (r.amended (s.posted f r.kind)))) (by simp)
    refine frame.trans ?_
    simp
  · simp; rfl
  · simp [State.record_setSlot, other]
  · rw [(State.placeAnswer_entry_fields _ _ _ _).1]
    simp
  · rw [(State.placeAnswer_entry_fields _ _ _ _).2.1]
    simpa using State.presence_taken request passes.defined
  · simp [State.lockOf]
  · simp
  · simp [State.answerFrames, Answer.record]

theorem State.classAtMost_congr {s t : State} (slots : t.table.slots = s.table.slots) : t.classAtMost = s.classAtMost := by
  funext c n
  simp only [State.classAtMost, State.record, slots]

@[simp] theorem State.beginTake_classAtMost (s : State) (f : RxFrame) (rest : List RxFrame) (n : Nat) :
    (s.beginTake f rest n).classAtMost = s.classAtMost := State.classAtMost_congr (by simp)

theorem State.displacements_congr {s t : State} (table : t.table = s.table) (u : Target) (c : Nat) :
    t.displacements u c = s.displacements u c := by
  have records : t.record = s.record := funext (State.record_congr (by rw [table]))
  have lists : t.list = s.list := funext (State.list_congr (by rw [table]))
  have classes : t.classAtMost = s.classAtMost := State.classAtMost_congr (by rw [table])
  simp only [State.displacements, State.governing, State.first, records, lists, classes]

/-- Notices leave the layout. -/
@[simp] theorem State.handNotices_store (s : State) (ns : List Notice) : (s.handNotices ns).store = s.store :=
  foldl_frame State.store _ (fun _ _ => by simp) ns s

/-- Settles O20: the creation, and the answer behind its notice. -/
theorem postCreatesPendingRecord : Obligations.PostCreatesPendingRecord := by
  unfold Obligations.PostCreatesPendingRecord
  intro s f rest t k n takes request passes fresh quota external free least
  have found : s.findKey t f.station k = none :=
    (s.findKey_eq_none_iff t f.station k).2 fun m ⟨r, live, key⟩ => fresh m r live key
  have lowest : s.freeExternal = some n :=
    (s.freeExternal_eq_some_iff n).2 ⟨⟨external, free⟩, fun m less free => least m less free.2⟩
  have free' : (s.beginTake f rest 1).record n = none := by rw [State.beginTake_record, free]
  have done : exec .post s = .next (((s.beginTake f rest 1).create n (s.newRecord f t k)).placeAnswer f
      (.record (s.posted f k).status n (s.newRecord f t k))) := by
    rw [takes.exec_post request, State.servePost_passed (passes.taken rest)]
    simp only [State.beginTake_findKey, found, State.beginTake_quota, quota, if_false, State.beginTake_freeExternal, lowest,
      State.beginTake_posted, State.beginTake_newRecord]
    rfl
  have c := (s.beginTake f rest 1).create_creates n (s.newRecord f t k) free' rfl
  generalize (s.beginTake f rest 1).create n (s.newRecord f t k) = w at done c
  have displaces : ∀ m, m ≠ n → w.record m = (s.record m).map (fun q =>
      if (s.list t).head? = some m ∧ (s.list t).any (s.classAtMost k.cls) = false ∧ q.state.judgedFirst = true
      then { q with state := .queued } else q) := fun m other => by
    simpa [State.newRecord, State.beginTake_classAtMost] using c.old m other
  have quotas : ∀ x, (w.entry x).quota = if x = f.station then (s.entry x).quota - 1 else (s.entry x).quota := fun x => by
    rw [c.entries x]
    simp [State.newRecord]
  have kept : ∀ x, (w.entry x).presence = ((s.beginTake f rest 1).entry x).presence ∧
      (w.entry x).lapse = ((s.beginTake f rest 1).entry x).lapse ∧ (w.entry x).mask = (s.entry x).mask := fun x => by
    rw [c.entries x]
    exact ⟨rfl, rfl, (s.beginTake_entry_fields f rest 1 x).2.1⟩
  have uncounted : ∀ x, x ≠ f.station → (s.beginTake f rest 1).entry x = s.entry x := fun x other => by
    rw [State.entry_beginTake, if_neg (fun k => other k.1)]
  have notices : w.AfterNotices (s.beginTake f rest 1) (s.displacements t k.cls) := by
    have := c.notices
    rwa [State.displacements_congr (s := s) (by simp)] at this
  have mark : w.answerMark f.station = ((s.beginTake f rest 1).handNotices (s.displacements t k.cls)).answerMark f.station := by
    have store : w.store = (s.beginTake f rest 1).store := by rw [c.frame]
    simp only [State.answerMark, notices.flags, State.defined, State.handNotices_store, store]
  refine ⟨_, done, State.eq_of_frame ?_, ?_, fun m other displaced => ?_, fun m other stays => ?_, ?_, fun x other => ?_,
    ?_, ?_, ?_, ?_, ?_, fun x other => ⟨?_, ?_, ?_, ?_⟩, fun x => ?_, ?_, ?_, fun x => ?_⟩
  · rw [c.frame]; simp
  · exact (State.placeAnswer_record_eq _ _ _ _).trans (c.new.trans (by simp [State.newRecord]))
  · obtain ⟨head, ahead, judged⟩ := displaced
    rw [State.placeAnswer_record_eq, displaces m other]
    cases live : s.record m with
    | none => rfl
    | some q =>
      rw [live] at judged
      exact congrArg some (if_pos ⟨head, ahead, judged⟩)
  · rw [State.placeAnswer_record_eq, displaces m other]
    cases live : s.record m with
    | none => rfl
    | some q => exact congrArg some (if_neg fun ⟨head, ahead, judged⟩ => stays ⟨head, ahead, by rw [live]; exact judged⟩)
  · simpa [State.newRecord, State.beginTake_classAtMost] using c.list
  · simpa using c.others x other
  · exact (congrArg DemandTable.postSeq (by simp)).trans (c.postSeq.trans (by simp; rfl))
  · simpa using c.timer
  · rw [(State.placeAnswer_entry_fields _ _ _ _).2.1, (kept _).1]
    exact State.presence_taken request passes.defined
  · rw [(State.placeAnswer_entry_fields _ _ _ _).1, quotas, if_pos rfl]
  · rw [(State.placeAnswer_entry_fields _ _ _ _).2.2.2, (kept _).2.2]
  · rw [(State.placeAnswer_entry_fields _ _ _ _).1, quotas, if_neg other]
  · rw [(State.placeAnswer_entry_fields _ _ _ _).2.1, (kept _).1, uncounted x other]
  · rw [(State.placeAnswer_entry_fields _ _ _ _).2.2.1, (kept _).2.1, uncounted x other]
  · rw [(State.placeAnswer_entry_fields _ _ _ _).2.2.2, (kept _).2.2]
  · have locks : w.register.locks = (s.beginTake f rest 1).register.locks := by rw [c.frame]
    simp only [State.lockOf, State.placeAnswer_locks, locks, State.beginTake_locks]
  · have supply : w.register.supply = (s.beginTake f rest 1).register.supply := by rw [c.frame]
    rw [State.placeAnswer_supply, supply, State.beginTake_supply]
  · rw [← State.placeAnswer_record, State.placeAnswer_link, State.placeAnswer_link, State.answerFrames_congr mark,
      notices.link, PostFields.status_eq]
  · have flag := notices.flags x
    have entry := c.entries x
    rw [← State.placeAnswer_record, State.entry_placeAnswer, State.entry_placeAnswer, mark, State.handNotices_entry, ← flag]
    generalize w.entry x = y at entry
    split <;> rw [entry]

end Sys2Proof.Machine
end

section
/-! SUPPORT. The layout by its items: reading back what was written (R180), the table of R176, and the repair of an image
at its load (R178). -/

namespace Sys2Proof.Machine

/-! ## Reading and writing an item -/

theorem ZoneRow.get_set (r : ZoneRow) (f g : ZoneItem) (v : Nat) : (r.set f v).get g = if g = f then v else r.get g := by
  cases f <;> cases g <;> rfl

theorem StationRow.get_set (r : StationRow) (f g : StationItem) (v : Nat) :
    (r.set f v).get g = if g = f then v else r.get g := by
  cases f <;> cases g <;> rfl

theorem Layout.getPlain_setPlain (l : Layout) (f g : PlainItem) (v : Nat) :
    (l.setPlain f v).getPlain g = if g = f then v else l.getPlain g := by
  cases f <;> cases g <;> rfl

/-- Setting an item that stands alone leaves the tables. -/
theorem Layout.setPlain_tables (l : Layout) (f : PlainItem) (v : Nat) :
    (l.setPlain f v).zones = l.zones ∧ (l.setPlain f v).stations = l.stations ∧
    (l.setPlain f v).thermistor = l.thermistor ∧ (l.setPlain f v).scaling = l.scaling := by
  cases f <;> exact ⟨rfl, rfl, rfl, rfl⟩

/-- An item is carried as a number that is not negative, or signed. -/
def Item.natural : Item → Bool
  | .zone _ _ | .station _ _ | .plain _ => true
  | .thermistor _ | .scaleLo _ | .scaleHi _ => false

theorem Layout.get_set_same (l : Layout) (i : Item) (x : Int) (natural : i.natural = true → 0 ≤ x) :
    (l.set i x).get i = x := by
  cases i with
  | zone z f => simpa [set, get, ZoneRow.get_set] using natural rfl
  | station i f => simpa [set, get, StationRow.get_set] using natural rfl
  | plain f => simpa [set, get, getPlain_setPlain] using natural rfl
  | thermistor i => simp [set, get]
  | scaleLo c => simp [set, get]
  | scaleHi c => simp [set, get]

theorem Layout.get_set_other (l : Layout) (i j : Item) (x : Int) (other : j ≠ i) : (l.set i x).get j = l.get j := by
  cases i with
  | zone z f =>
    cases j with
    | zone z' f' =>
      by_cases same : z' = z
      · subst same
        have g : f' ≠ f := fun e => other (by rw [e])
        simp [set, get, ZoneRow.get_set, g]
      · simp [set, get, Fin.val_ne_of_ne (Ne.symm same)]
    | plain g => cases g <;> rfl
    | _ => rfl
  | station i f =>
    cases j with
    | station i' f' =>
      by_cases same : i' = i
      · subst same
        have g : f' ≠ f := fun e => other (by rw [e])
        simp [set, get, StationRow.get_set, g]
      · simp [set, get, Fin.val_ne_of_ne (Ne.symm same)]
    | plain g => cases g <;> rfl
    | _ => rfl
  | plain f =>
    obtain ⟨zones, stations, thermistor, scaling⟩ := l.setPlain_tables f x.toNat
    cases j with
    | plain g =>
      have g' : g ≠ f := fun e => other (by rw [e])
      simp [set, get, getPlain_setPlain, g']
    | _ => simp [set, get, zones, stations, thermistor, scaling]
  | thermistor i =>
    cases j with
    | thermistor i' =>
      have g : i ≠ i' := fun e => other (by rw [e])
      simp [set, get, Fin.val_ne_of_ne g]
    | plain g => cases g <;> rfl
    | _ => rfl
  | scaleLo c =>
    cases j with
    | scaleLo c' =>
      have g : c ≠ c' := fun e => other (by rw [e])
      simp [set, get, Fin.val_ne_of_ne g]
    | scaleHi c' =>
      simp only [set, get, Vector.getElem_set]
      split
      · rename_i same; simp [same]
      · rfl
    | plain g => cases g <;> rfl
    | _ => rfl
  | scaleHi c =>
    cases j with
    | scaleHi c' =>
      have g : c ≠ c' := fun e => other (by rw [e])
      simp [set, get, Fin.val_ne_of_ne g]
    | scaleLo c' =>
      simp only [set, get, Vector.getElem_set]
      split
      · rename_i same; simp [same]
      · rfl
    | plain g => cases g <;> rfl
    | _ => rfl

/-! ## The table of the items -/

theorem Item.mem_all (i : Item) : i ∈ Item.all := by
  simp only [Item.all, List.append_eq, List.mem_append]
  cases i with
  | zone z f => exact .inl (List.mem_flatMap.2 ⟨z, List.mem_finRange z, by cases f <;> simp [Item.ofZone]⟩)
  | station i f =>
    exact .inr (.inr (.inl (List.mem_flatMap.2 ⟨i, List.mem_finRange i, by cases f <;> simp [Item.ofStation]⟩)))
  | plain f => cases f <;> simp [Item.plantItems, Item.thresholdItems, Item.travelItems]
  | thermistor i => exact .inr (.inr (.inr (.inr (.inl (List.mem_map.2 ⟨i, List.mem_finRange i, rfl⟩)))))
  | scaleLo c =>
    exact .inr (.inr (.inr (.inr (.inr (.inl (List.mem_flatMap.2 ⟨c, List.mem_finRange c, by simp⟩))))))
  | scaleHi c =>
    exact .inr (.inr (.inr (.inr (.inr (.inl (List.mem_flatMap.2 ⟨c, List.mem_finRange c, by simp⟩))))))

theorem Item.number_ascending : (Item.all.map Item.number).Pairwise (· < ·) := by
  rw [← List.isChain_iff_pairwise]
  decide +kernel

theorem Item.number_injective {i j : Item} (same : i.number = j.number) : i = j := by
  have distinct : (Item.all.map Item.number).Nodup := Item.number_ascending.imp (fun h => ne_of_lt h)
  exact List.inj_on_of_nodup_map distinct i.mem_all j.mem_all same

theorem Item.ofNumber_eq_some_iff (n : Nat) (i : Item) : Item.ofNumber n = some i ↔ i.number = n := by
  unfold Item.ofNumber
  constructor
  · intro found
    simpa using List.find?_some found
  · rintro rfl
    cases found : Item.all.find? (fun j => j.number == i.number) with
    | none => simpa using List.find?_eq_none.1 found i i.mem_all
    | some j => exact congrArg some (Item.number_injective (by simpa using List.find?_some found))

/-- The lapse interval has a gap at 1 (R176). -/
def Item.isLapse : Item → Bool
  | .station _ .lapseInterval => true
  | _ => false

theorem Item.inRange_iff (i : Item) (x : Int) : i.inRange x = true ↔
    (i.range.1 ≤ x ∧ x ≤ i.range.2) ∧ (i.isLapse = true → x ≠ 1) := by
  unfold Item.inRange Item.isLapse
  split <;> simp

theorem Item.range_natural (i : Item) (natural : i.natural = true) : 0 ≤ i.range.1 := by
  cases i with
  | zone z f => cases f <;> simp only [range] <;> (try split) <;> decide
  | station i f => cases f <;> exact Int.le_of_lt_add_one (by simp [range])
  | plain f => cases f <;> decide
  | _ => cases natural

theorem Item.nonneg_of_inRange {i : Item} {x : Int} (inRange : i.inRange x = true) (natural : i.natural = true) : 0 ≤ x :=
  (i.range_natural natural).trans ((i.inRange_iff x).1 inRange).1.1

/-- An item in its range reads back as written (R180). -/
theorem Layout.get_set_inRange (l : Layout) {i : Item} {x : Int} (inRange : i.inRange x = true) : (l.set i x).get i = x :=
  l.get_set_same i x (Item.nonneg_of_inRange inRange)

theorem Item.number_row (i : Item) : i.number = i.row.number := by
  cases i with
  | zone z f => cases f <;> simp only [number, row, ZoneItem.offset] <;> omega
  | station i f => cases f <;> rfl
  | plain f => cases f <;> rfl
  | _ => rfl

theorem Item.default_row (i : Item) : i.default = i.row.default := by
  cases i with
  | zone z f => revert z; cases f <;> decide
  | station i f => revert i; cases f <;> decide
  | plain f => cases f <;> rfl
  | thermistor i => revert i; decide
  | scaleLo c => revert c; decide
  | scaleHi c => revert c; decide

theorem Item.range_row (i : Item) : i.range = (i.row.low, i.row.high) := by
  cases i with
  | zone z f => revert z; cases f <;> decide
  | station i f => cases f <;> rfl
  | plain f => cases f <;> rfl
  | thermistor i => rfl
  | scaleLo c => revert c; decide
  | scaleHi c => revert c; decide

theorem Item.isLapse_iff (i : Item) : i.isLapse = true ↔ ∃ st, i = .station st .lapseInterval := by
  cases i with
  | station i f => cases f <;> simp [isLapse]
  | _ => simp [isLapse]

theorem Item.signed_iff (i : Item) : i.signed = true ↔ (∃ n, i = .thermistor n) ∨ i = .scaleLo 3 ∨ i = .scaleHi 3 := by
  cases i <;> simp [signed]

theorem Layout.actuatorPresent_zone (l : Layout) (z : Zone) :
    l.actuatorPresent (outletOf z) = l.zonePresent z ∧ l.actuatorPresent (blendDoorOf z) = l.zonePresent z := by
  obtain ⟨z, zone⟩ := z
  have outlet : 1 + z ≠ 0 ∧ 1 + z ≤ 8 := by omega
  have door : 9 + z ≠ 0 ∧ ¬ 9 + z ≤ 8 := by omega
  simp [Layout.actuatorPresent, outletOf, blendDoorOf, outlet, door]

/-- Settles O36: by the item set and the item read, and by the rows of the table. -/
theorem layoutItemsReadBackAsWritten : Obligations.LayoutItemsReadBackAsWritten := by
  unfold Obligations.LayoutItemsReadBackAsWritten
  refine ⟨fun l i x inRange => l.get_set_inRange inRange, fun l i j x other => l.get_set_other i j x other,
    fun i => (Item.ofNumber_eq_some_iff _ i).2 rfl, fun i j same => Item.number_injective same,
    fun i => ⟨i.number_row, i.default_row, fun x => ?_, i.signed_iff⟩, fun s => ⟨fun st => ⟨rfl, rfl⟩, fun a => rfl⟩,
    fun l => ⟨fun z => bne_iff_ne, fun c => rfl, rfl, l.actuatorPresent_zone⟩⟩
  rw [Item.inRange_iff, Item.range_row, Item.isLapse_iff, and_assoc]

end Sys2Proof.Machine
end

section
/-! SUPPORT. The load of the layout (R178): the repair of an image by its items, and the CRC bit by bit. -/

namespace Sys2Proof.Machine

/-! ## The repair of an image, item by item -/

theorem Item.default_inRange (i : Item) : i.inRange i.default = true := by
  cases i with
  | zone z f => revert z; cases f <;> decide
  | station i f => revert i; cases f <;> decide
  | plain f => cases f <;> decide
  | thermistor i => revert i; decide
  | scaleLo c => revert c; decide
  | scaleHi c => revert c; decide

theorem Item.default_pair (c : Fin 5) : Item.default (.scaleLo c) < Item.default (.scaleHi c) := by
  revert c; decide

/-- The scaling pair that an item belongs to. -/
def Item.scaleOf : Item → Option (Fin 5)
  | .scaleLo c | .scaleHi c => some c
  | _ => none

theorem Item.all_nodup : Item.all.Nodup :=
  List.Nodup.of_map _ (Item.number_ascending.imp (fun h => ne_of_lt h))

namespace Layout

/-- The value that an image gives for an item: its own where it is in range, otherwise the default (R178). -/
def good (l : Layout) (i : Item) : Int := if i.inRange (l.get i) then l.get i else i.default

theorem good_inRange (l : Layout) (i : Item) : i.inRange (l.good i) = true := by
  unfold good
  split
  · assumption
  · exact i.default_inRange

theorem get_repairItem (l : Layout) (i j : Item) : (l.repairItem i).get j = if j = i then l.good j else l.get j := by
  unfold repairItem good
  by_cases same : j = i
  · subst same
    by_cases inRange : j.inRange (l.get j) = true
    · simp [inRange]
    · simp [inRange, l.get_set_inRange j.default_inRange]
  · by_cases inRange : i.inRange (l.get i) = true
    · simp [inRange, same]
    · simp [inRange, same, l.get_set_other i j _ same]

theorem get_repairItems (L : List Item) (once : L.Nodup) (l : Layout) (j : Item) :
    (L.foldl repairItem l).get j = if j ∈ L then l.good j else l.get j := by
  induction L generalizing l with
  | nil => simp
  | cons i L ih =>
    obtain ⟨fresh, once⟩ := List.nodup_cons.1 once
    rw [List.foldl_cons, ih once, good, get_repairItem]
    by_cases same : j = i
    · subst same
      simp [fresh]
    · simp [same, good]

/-- The value of an item once a scaling pair out of order takes its defaults (R178). -/
def paired (l : Layout) (c : Fin 5) (j : Item) : Int :=
  if l.get (.scaleLo c) < l.get (.scaleHi c) then l.get j else j.default

theorem get_repairScale (l : Layout) (c : Fin 5) (j : Item) :
    (l.repairScale c).get j = if j.scaleOf = some c then l.paired c j else l.get j := by
  unfold repairScale paired
  by_cases ordered : l.get (.scaleLo c) < l.get (.scaleHi c)
  · simp [ordered]
  simp only [if_neg ordered]
  have written : ∀ (m : Layout) (i : Item), (m.set i i.default).get i = i.default :=
    fun m i => m.get_set_inRange i.default_inRange
  by_cases hi : j = .scaleHi c
  · rw [hi, written]; exact (if_pos rfl).symm
  rw [get_set_other _ _ _ _ hi]
  by_cases lo : j = .scaleLo c
  · rw [lo, written]; exact (if_pos rfl).symm
  rw [get_set_other _ _ _ _ lo, if_neg]
  cases j <;> simp_all [Item.scaleOf]

theorem paired_repairScale (l : Layout) {c a : Fin 5} (other : c ≠ a) {j : Item} (pair : j.scaleOf = some c) :
    (l.repairScale a).paired c j = l.paired c j := by
  have kept : ∀ i : Item, i.scaleOf = some c → (l.repairScale a).get i = l.get i := fun i h => by
    rw [get_repairScale, if_neg (by rw [h]; simpa using other)]
  simp only [paired, kept (.scaleLo c) rfl, kept (.scaleHi c) rfl, kept j pair]

theorem get_repairScales (L : List (Fin 5)) (once : L.Nodup) (l : Layout) (j : Item) :
    (L.foldl repairScale l).get j = match j.scaleOf with
      | none => l.get j
      | some c => if c ∈ L then l.paired c j else l.get j := by
  induction L generalizing l with
  | nil => cases j.scaleOf <;> simp
  | cons a L ih =>
    obtain ⟨fresh, once⟩ := List.nodup_cons.1 once
    rw [List.foldl_cons, ih once]
    cases pair : j.scaleOf with
    | none => simp [get_repairScale, pair]
    | some c =>
      by_cases same : c = a
      · subst same
        simp [fresh, get_repairScale, pair]
      · simp [same, l.paired_repairScale same pair, get_repairScale, pair]

theorem get_repairTravel (l : Layout) (j : Item) : l.repairTravel.get j =
    if (j = .plain .travelLow ∨ j = .plain .travelHigh) ∧ ¬ l.get (.plain .travelLow) < l.get (.plain .travelHigh)
    then j.default else l.get j := by
  have limits : l.get (.plain .travelLow) < l.get (.plain .travelHigh) ↔ l.travelLow < l.travelHigh := Int.ofNat_lt
  unfold repairTravel
  simp only [limits]
  by_cases ordered : l.travelLow < l.travelHigh
  · simp [ordered]
  · rw [if_neg ordered]
    cases j with
    | plain f => cases f <;> simp [ordered] <;> rfl
    | _ => simp; rfl

/-- The value of an item that a repaired image holds (R178, log 14). -/
def mended (l : Layout) (j : Item) : Int :=
  match j with
  | .scaleLo c => if l.good (.scaleLo c) < l.good (.scaleHi c) then l.good (.scaleLo c) else Item.default (.scaleLo c)
  | .scaleHi c => if l.good (.scaleLo c) < l.good (.scaleHi c) then l.good (.scaleHi c) else Item.default (.scaleHi c)
  | .plain .travelLow =>
    if l.good (.plain .travelLow) < l.good (.plain .travelHigh) then l.good (.plain .travelLow) else 400
  | .plain .travelHigh =>
    if l.good (.plain .travelLow) < l.good (.plain .travelHigh) then l.good (.plain .travelHigh) else 4000
  | j => l.good j

theorem get_repair (l : Layout) (j : Item) : l.repair.get j = l.mended j := by
  have items : ∀ i, (Item.all.foldl repairItem l).get i = l.good i := fun i => by
    rw [get_repairItems _ Item.all_nodup, if_pos i.mem_all]
  have scales : ∀ i, ((List.finRange 5).foldl repairScale (Item.all.foldl repairItem l)).get i = match i.scaleOf with
      | none => l.good i
      | some c => if l.good (.scaleLo c) < l.good (.scaleHi c) then l.good i else i.default := fun i => by
    rw [get_repairScales _ (List.nodup_finRange 5)]
    cases pair : i.scaleOf with
    | none => exact items i
    | some c => simp only [List.mem_finRange, if_true, paired, items]
  unfold repair
  rw [get_repairTravel]
  simp only [scales]
  cases j with
  | plain f =>
    have low : Item.default (.plain .travelLow) = 400 := rfl
    have high : Item.default (.plain .travelHigh) = 4000 := rfl
    by_cases ordered : l.good (.plain .travelLow) < l.good (.plain .travelHigh)
    · cases f <;> simp [Item.scaleOf, mended, ordered]
    · cases f <;> simp [Item.scaleOf, mended, ordered, low, high]
  | scaleLo c => simp [Item.scaleOf, mended]
  | scaleHi c => simp [Item.scaleOf, mended]
  | _ => simp [Item.scaleOf, mended]

theorem mended_inRange (l : Layout) (i : Item) : i.inRange (l.mended i) = true := by
  have either : ∀ (p : Prop) [Decidable p] (j : Item), j.inRange (if p then l.good j else j.default) = true := fun p _ j => by
    split
    · exact l.good_inRange j
    · exact j.default_inRange
  cases i with
  | plain f =>
    cases f with
    | travelLow => exact either _ (.plain .travelLow)
    | travelHigh => exact either _ (.plain .travelHigh)
    | _ => exact l.good_inRange _
  | scaleLo c => exact either _ (.scaleLo c)
  | scaleHi c => exact either _ (.scaleHi c)
  | _ => exact l.good_inRange _

theorem mended_ordered (l : Layout) (c : Fin 5) : l.mended (.scaleLo c) < l.mended (.scaleHi c) := by
  simp only [mended]
  split
  · assumption
  · exact Item.default_pair c

theorem mended_travel (l : Layout) : l.mended (.plain .travelLow) < l.mended (.plain .travelHigh) := by
  simp only [mended]
  split
  · assumption
  · decide

/-- An image in range throughout, with its pairs in order, is its own repair (R178). -/
theorem repair_eq_self (l : Layout) (inRange : ∀ i : Item, i.inRange (l.get i) = true)
    (ordered : ∀ c : Fin 5, l.get (.scaleLo c) < l.get (.scaleHi c)) (travel : l.travelLow < l.travelHigh) :
    l.repair = l := by
  have items : ∀ L : List Item, L.foldl repairItem l = l := fun L => by
    induction L with
    | nil => rfl
    | cons i L ih => rw [List.foldl_cons, repairItem, if_pos (inRange i), ih]
  have scales : ∀ L : List (Fin 5), L.foldl repairScale l = l := fun L => by
    induction L with
    | nil => rfl
    | cons c L ih => rw [List.foldl_cons, repairScale, if_pos (ordered c), ih]
  rw [repair, items, scales, repairTravel, if_pos travel]

/-! ## The CRC -/

/-- The bits of a value, the highest first (log 12). -/
def bitsOf (w : Word16) : List Bool := (List.range 16).map w.getMsbD

theorem crcWord_serial (c w : Word16) : crcWord c w = (bitsOf w).foldl crcSerial c := by
  have high : (List.range 8).map (w.extractLsb' 8 8).getMsbD = (List.range 8).map w.getMsbD :=
    List.map_congr_left fun k hk => by
      have := List.mem_range.1 hk
      interval_cases k <;> simp [BitVec.getMsbD]
  have low : (List.range 8).map (w.extractLsb' 0 8).getMsbD = (List.range 8).map (fun k => w.getMsbD (8 + k)) :=
    List.map_congr_left fun k hk => by
      have := List.mem_range.1 hk
      interval_cases k <;> simp [BitVec.getMsbD]
  have halves : bitsOf w = (List.range 8).map w.getMsbD ++ (List.range 8).map (fun k => w.getMsbD (8 + k)) := rfl
  rw [crcWord, crcByte_serial, crcByte_serial, high, low, halves, List.foldl_append]

theorem crc_serial (l : Layout) :
    l.crc = (Item.all.flatMap (fun i => bitsOf (BitVec.ofInt 16 (l.get i)))).foldl crcSerial 0xFFFF#16 := by
  rw [List.foldl_flatMap]
  simp only [← crcWord_serial]
  rfl

end Layout

/-! ## The load -/

theorem NvStore.load_matching (image : Layout) : NvStore.load (.written image image.crc) =
    if image.repair = image then (image, .pass) else (image.repair, .itemsDefaulted) := if_pos rfl

theorem NvStore.load_live (image : Layout) : (NvStore.load (.written image image.crc)).1 = image.repair := by
  rw [load_matching]
  by_cases same : image.repair = image
  · rw [if_pos same, same]
  · rw [if_neg same]

/-- Settles O8: the load by what the store holds, the repair item by item, and the CRC bit by bit. -/
theorem loadTakesTheImageOrDefaults : Obligations.LoadTakesTheImageOrDefaults := by
  unfold Obligations.LoadTakesTheImageOrDefaults
  refine ⟨rfl, fun image crc differs => if_neg differs, fun image inRange ordered travel => ?_, fun image => ?_,
    fun image => image.crc_serial, Item.number_ascending, Item.mem_all⟩
  · have kept : image.repair = image := image.repair_eq_self inRange ordered travel
    have load := NvStore.load_matching image
    rw [if_pos kept] at load
    exact load
  · intro good live
    have get : ∀ i, live.get i = image.mended i := fun i => by
      simp only [live, NvStore.load_live, Layout.get_repair]
    refine ⟨fun z f => get _, fun i f => get _, fun i => get _, fun f low high => ?_, fun c => ?_, ?_, ?_⟩
    · cases f with
      | travelLow => exact absurd rfl low
      | travelHigh => exact absurd rfl high
      | _ => exact get _
    · rw [get, get]
      by_cases o : good (.scaleLo c) < good (.scaleHi c)
      · rw [if_pos o]
        exact ⟨if_pos o, if_pos o⟩
      · rw [if_neg o]
        exact ⟨if_neg o, if_neg o⟩
    · rw [get, get]
      by_cases o : good (.plain .travelLow) < good (.plain .travelHigh)
      · rw [if_pos o]
        exact ⟨if_pos o, if_pos o⟩
      · rw [if_neg o]
        exact ⟨if_neg o, if_neg o⟩
    · have result : live = image.repair := NvStore.load_live image
      rw [result, NvStore.load_matching]
      by_cases same : image.repair = image
      · simp [same]
      · simp [same]

/-- Settles O9: whatever the load takes is the built-in layout or a repaired image. -/
theorem liveLayoutIsInRangeAfterLoad : Obligations.LiveLayoutIsInRangeAfterLoad := by
  unfold Obligations.LiveLayoutIsInRangeAfterLoad
  intro nv
  have cases : nv.load.1 = Layout.builtIn ∨ ∃ image : Layout, nv.load.1 = image.repair := by
    cases nv with
    | blank => exact .inl rfl
    | written image crc =>
      by_cases matching : image.crc = crc
      · subst matching
        exact .inr ⟨image, NvStore.load_live image⟩
      · exact .inl (congrArg Prod.fst (if_neg matching))
  rcases cases with e | ⟨image, e⟩
  · rw [e]
    exact ⟨Item.default_inRange, Item.default_pair, by decide⟩
  · rw [e]
    refine ⟨fun i => ?_, fun c => ?_, Int.ofNat_lt.1 ?_⟩
    · rw [Layout.get_repair]; exact image.mended_inRange i
    · rw [Layout.get_repair, Layout.get_repair]; exact image.mended_ordered c
    · have := image.mended_travel
      rwa [← Layout.get_repair, ← Layout.get_repair] at this

end Sys2Proof.Machine
end


section
/-! SUPPORT. The statements about REFRESH, LIST, ZONE_STATUS, PLANT_STATUS and the service requests: what the taken state
shows to their checks, and the bytes of their answers. -/

namespace Sys2Proof.Machine

/-! ## REFRESH -/

/-- A counted entry keeps its notice mask (R47). -/
theorem State.beginTake_mask (s : State) (f : RxFrame) (rest : List RxFrame) (n : Nat) (st : Station) :
    ((s.beginTake f rest n).entry st).mask = (s.entry st).mask := by
  rw [State.entry_beginTake]
  split
  · rename_i sender; rw [sender.1]; rfl
  · rfl

/-- Settles O29, by the checks of R46 in their order. -/
theorem refreshSetsTheNoticeMask : Obligations.RefreshSetsTheNoticeMask := by
  unfold Obligations.RefreshSetsTheNoticeMask
  intro s f rest takes request
  refine congrArg Host.Outcome.next ?_
  rw [takes.take_eq request, State.serveRefresh]
  simp only [State.beginTake_gate, State.beginTake_mask]
  rcases s.gate_cases f with ⟨start, gate⟩ | ⟨start, undefined, gate⟩ | ⟨start, defined, gate⟩
  · simp [start, gate, State.placeAnswer_plain]
  · simp [start, undefined, gate, State.placeAnswer_plain]
  · simp [start, defined, gate, State.placeAnswer_one, newMask]

/-! ## The bytes of a 16-bit field -/

theorem hiByte_wordOf (hi lo : Byte) : hiByte (wordOf hi lo) = hi := by
  unfold hiByte wordOf
  exact BitVec.extractLsb'_append_eq_left

theorem loByte_wordOf (hi lo : Byte) : loByte (wordOf hi lo) = lo := by
  unfold loByte wordOf
  exact BitVec.extractLsb'_append_eq_right

/-- The number of two bytes, sent back, gives the bytes (R172). -/
theorem RxFrame.word_num16 (f : RxFrame) (i : Nat) : word (f.num16 i) = wordOf (f.byte i) (f.byte (i + 1)) := by
  rw [word, RxFrame.num16, BitVec.ofNat_toNat, BitVec.setWidth_eq]

theorem itemAnswer_eq (f : RxFrame) (x : Int) : itemAnswer (f.num16 1) x =
    .one .ok 0 #v[f.byte 1, f.byte 2, hiByte (wordInt x), loByte (wordInt x), 0, 0] := by
  unfold itemAnswer
  refine congrArg (Answer.one .ok 0) (vector_six_congr ?_ ?_ rfl rfl rfl rfl)
  · rw [f.word_num16, hiByte_wordOf]
  · rw [f.word_num16, loByte_wordOf]

/-! ## The service requests -/

/-- The mode check and the SERVICE right (R180): all that they can answer, and when. -/
theorem State.serviceGate_cases (s : State) (f : RxFrame) :
    (s.modes.mode = .start ∧ s.serviceGate f = some .notNow) ∨
    (s.modes.mode ≠ .start ∧ ¬ (s.defined f.station = true ∧ (s.config f.station).serviceRight ≠ 0) ∧
      s.serviceGate f = some .notPermitted) ∨
    (s.modes.mode ≠ .start ∧ (s.defined f.station = true ∧ (s.config f.station).serviceRight ≠ 0) ∧
      s.serviceGate f = none) := by
  by_cases start : s.modes.mode = .start
  · exact .inl ⟨start, if_pos start⟩
  by_cases service : s.defined f.station = true ∧ (s.config f.station).serviceRight ≠ 0
  · exact .inr (.inr ⟨start, service, (if_neg start).trans (if_pos service)⟩)
  · exact .inr (.inl ⟨start, service, (if_neg start).trans (if_neg service)⟩)

section
variable (s : State) (f : RxFrame) (rest : List RxFrame) (n : Nat)

theorem State.beginTake_serviceGate (g : RxFrame) : (s.beginTake f rest n).serviceGate g = s.serviceGate g := by
  simp only [State.serviceGate, State.beginTake_frame, State.beginTake_defined, State.beginTake_config]

theorem State.beginTake_writing : (s.beginTake f rest n).writing = s.writing := by
  simp only [State.writing, State.beginTake_frame]

end

theorem State.writing_iff (s : State) : s.writing = true ↔ s.store.result = .writing := by simp [State.writing]

/-- Settles O35: the service gate, the item named, and its value carried or written. -/
theorem layoutReadAndWriteNameAnItem : Obligations.LayoutReadAndWriteNameAnItem := by
  unfold Obligations.LayoutReadAndWriteNameAnItem
  intro s f rest takes u service carries
  have number : f.num16 1 = 256 * f.num 1 + f.num 2 := f.num16_eq 1
  have item : ∀ (v : State) (x : Int), v.placeAnswer f (itemAnswer (f.num16 1) x) = carries v x := fun v x => by
    rw [itemAnswer_eq]; rfl
  refine ⟨fun request => congrArg Host.Outcome.next ?_, fun request => congrArg Host.Outcome.next ?_⟩
  · rw [takes.take_eq request, State.serveLayoutRead, State.beginTake_serviceGate]
    rcases s.serviceGate_cases f with ⟨start, gate⟩ | ⟨start, right, gate⟩ | ⟨start, right, gate⟩
    · rw [gate, if_pos start]; rfl
    · rw [gate, if_neg start, if_pos right]; rfl
    rw [gate, if_neg start, if_neg (not_not_intro right), ← number]
    cases Item.ofNumber (f.num16 1) with
    | none => rfl
    | some i =>
      refine (item _ _).trans ?_
      simp only [State.beginTake_frame] <;> rfl
  · rw [takes.take_eq request, State.serveLayoutWrite, State.beginTake_serviceGate, State.beginTake_writing]
    rcases s.serviceGate_cases f with ⟨start, gate⟩ | ⟨start, right, gate⟩ | ⟨start, right, gate⟩
    · rw [gate, if_pos start]; rfl
    · rw [gate, if_neg start, if_pos right]; rfl
    rw [gate, if_neg start, if_neg (not_not_intro right)]
    by_cases writing : s.store.result = .writing
    · rw [if_pos writing]
      simp only [s.writing_iff.2 writing, if_pos] <;> rfl
    rw [if_neg writing, ← number]
    have idle : s.writing = false := Bool.eq_false_iff.2 (fun w => writing (s.writing_iff.1 w))
    simp only [idle]
    cases Item.ofNumber (f.num16 1) with
    | none => rfl
    | some i =>
      have value : f.itemValue i =
          if i.signed = true then (f.byte 3 ++ f.byte 4).toInt else ((f.byte 3 ++ f.byte 4).toNat : Int) := rfl
      by_cases good : i.inRange (f.itemValue i) = true
      · refine Eq.trans ?_ (if_pos (value ▸ good)).symm
        simp only [Bool.false_eq_true, if_false, good, if_true, item, Layout.get_set_inRange _ good, ← value] <;> rfl
      · refine Eq.trans ?_ (if_neg (value ▸ good)).symm
        simp only [Bool.false_eq_true, if_false, good] <;> rfl

/-- A service request that nothing but the gate and a write in flight refuses (R181, R182). -/
def State.serveService (change : State → State) (s : State) (f : RxFrame) : State × Answer :=
  match s.serviceGate f with
  | some st => (s, .plain st)
  | none => if s.writing then (s, .plain .notNow) else (change s, .plain .ok)

theorem State.serveLayoutStore_eq : State.serveLayoutStore =
    State.serveService (fun s => { s with store := { s.store with result := .writing } }) := rfl

theorem State.serveRestart_eq : State.serveRestart =
    State.serveService (fun s => { s with link := { s.link with restartAwaited := true } }) := rfl

theorem State.CanTake.take_service {s : State} {f : RxFrame} {rest : List RxFrame} (takes : s.CanTake f rest 1) {k : Nat}
    (request : f.isRequest k = true) (change : State → State) :
    s.take (fun f => f.isRequest k) oneFrame (State.serveService change) =
      let u := s.beginTake f rest 1
      if s.modes.mode = .start then u.refuse f .notNow
      else if ¬ (s.defined f.station = true ∧ (s.config f.station).serviceRight ≠ 0) then u.refuse f .notPermitted
      else if s.store.result = .writing then u.refuse f .notNow
      else (change u).reply f .ok 0 #v[0, 0, 0, 0, 0, 0] := by
  rw [takes.take_eq request, State.serveService, State.beginTake_serviceGate, State.beginTake_writing]
  rcases s.serviceGate_cases f with ⟨start, gate⟩ | ⟨start, right, gate⟩ | ⟨start, right, gate⟩
  · simp only [gate, start, if_true] <;> rfl
  · simp only [gate, if_neg start, if_pos right] <;> rfl
  by_cases writing : s.store.result = .writing
  · simp only [gate, if_neg start, if_neg (not_not_intro right), s.writing_iff.2 writing, if_pos writing, if_true] <;> rfl
  · have idle : s.writing = false := Bool.eq_false_iff.2 (fun w => writing (s.writing_iff.1 w))
    simp only [gate, if_neg start, if_neg (not_not_intro right), idle, if_neg writing, Bool.false_eq_true, if_false] <;> rfl

/-- Settles O37: the service gate, the write in flight, and what an accepted request begins. -/
theorem storeAndRestartNeedServiceAndNoWrite : Obligations.StoreAndRestartNeedServiceAndNoWrite := by
  unfold Obligations.StoreAndRestartNeedServiceAndNoWrite
  intro s f rest takes u judged
  exact ⟨fun request => congrArg Host.Outcome.next (takes.take_service request _),
    fun request => congrArg Host.Outcome.next (takes.take_service request _)⟩

/-! ## ZONE_STATUS -/

theorem RxFrame.pageIs_zero_of {f : RxFrame} (other : f.num 2 ≠ 1) : f.pageIs 0 = true := by
  simp only [RxFrame.pageIs, Bool.or_eq_true, beq_iff_eq, decide_eq_true_iff]; omega

theorem RxFrame.pageIs_one_of {f : RxFrame} (other : f.num 2 ≠ 0) : f.pageIs 1 = true := by
  simp only [RxFrame.pageIs, Bool.or_eq_true, beq_iff_eq, decide_eq_true_iff]; omega

/-- A page judged (R46, R101). -/
def State.servePage (page : State → Zone → Answer) (s : State) (f : RxFrame) : State × Answer :=
  match s.zoneChecks f with
  | .error st => (s, .plain st)
  | .ok z => (s, page s z)

theorem State.serveZonePage0_eq :
    State.serveZonePage0 = State.servePage (fun s z => .one .ok 0 s.climate.zones[z.val].page0) := rfl

theorem State.serveZonePage1_eq : State.serveZonePage1 =
    State.servePage (fun s z => .one .ok 1 (page1 (s.drive.act (outletOf z)) (s.drive.act (blendDoorOf z)))) := rfl

/-- The checks of ZONE_STATUS in their order, and the page of the zone (R46, R101). -/
theorem State.CanTake.take_page {s : State} {f : RxFrame} {rest : List RxFrame} (takes : s.CanTake f rest 1)
    {accepts : RxFrame → Bool} (accepted : accepts f = true) {page : State → Zone → Answer} {answered : Zone → State}
    (same : ∀ z, (s.beginTake f rest 1).placeAnswer f (page (s.beginTake f rest 1) z) = answered z) :
    s.take accepts oneFrame (State.servePage page) =
      let u := s.beginTake f rest 1
      if s.modes.mode = .start then u.refuse f .notNow
      else if s.defined f.station = false then u.refuse f .notPermitted
      else match s.store.live.presentZone (f.num 1) with
        | none => u.refuse f .badTarget
        | some z => if 1 < f.num 2 then u.refuse f .badValue else answered z := by
  rw [takes.take_eq accepted, State.servePage, State.zoneChecks, State.beginTake_gate]
  rcases s.gate_cases f with ⟨start, gate⟩ | ⟨start, undefined, gate⟩ | ⟨start, defined, gate⟩
  · simp [start, gate, State.placeAnswer_plain]
  · simp [start, undefined, gate, State.placeAnswer_plain]
  simp only [start, gate, defined, State.beginTake_frame]
  cases s.store.live.presentZone (f.num 1) with
  | none => simp [State.placeAnswer_plain]
  | some z => by_cases other : 1 < f.num 2 <;> simp [other, State.placeAnswer_plain, same]

theorem Actuator.stateByte_eq (x : Actuator) :
    x.stateByte = BitVec.ofNat 8 (16 * x.reason.code + x.state.code) :=
  nibbles_eq (by cases x.reason <;> decide) (by cases x.state <;> decide)

theorem Layout.presentZone_eq_some_iff (l : Layout) (n : Nat) (z : Zone) :
    l.presentZone n = some z ↔ z.val = n ∧ l.zones[z.val].present ≠ 0 := by
  rw [Layout.presentZone, Option.filter_eq_some_iff, Layout.zonePresent, bne_iff_ne]
  refine and_congr_left fun _ => ?_
  unfold zoneOf
  split
  · simp [Fin.ext_iff, eq_comm]
  · simp; omega

/-- Settles O33: the checks in their order, the two pages byte by byte, and the numbers of a zone's actuators. -/
theorem zoneStatusCarriesThePage : Obligations.ZoneStatusCarriesThePage := by
  unfold Obligations.ZoneStatusCarriesThePage
  intro s f rest takes request u temp door judged
  have temps : ∀ t : ZoneTemp, t.wire = temp t := fun t => by cases t <;> rfl
  have doors : ∀ x : Actuator, x.stateByte = door x := fun x => by
    rw [x.stateByte_eq]
    simp only [door]
    cases x.reason <;> cases x.state <;> rfl
  refine ⟨fun other => ?_, fun other => ?_, s.store.live.presentZone_eq_some_iff, fun z => ⟨rfl, rfl⟩⟩
  · have accepts : (f.isRequest 8 && f.pageIs 0) = true := by rw [request, RxFrame.pageIs_zero_of other]; rfl
    refine congrArg Host.Outcome.next (takes.take_page accepts fun z => congrArg (u.reply f .ok 0) ?_)
    simp only [State.beginTake_frame, ZoneState.page0, temps]
    refine vector_six_congr rfl rfl rfl rfl rfl ?_
    cases s.climate.zones[z.val].servedFor <;> rfl
  · have accepts : (f.isRequest 8 && f.pageIs 1) = true := by rw [request, RxFrame.pageIs_one_of other]; rfl
    refine congrArg Host.Outcome.next (takes.take_page accepts fun z => congrArg (u.reply f .ok 1) ?_)
    simp only [State.beginTake_frame, page1, doors] <;> rfl

/-! ## PLANT_STATUS -/

/-- Settles O34: the fields of the answer, and the link overrun flag that its composition clears. -/
theorem plantStatusReportsAndClearsOverrun : Obligations.PlantStatusReportsAndClearsOverrun := by
  unfold Obligations.PlantStatusReportsAndClearsOverrun
  intro s f rest takes request u intake fan mode check result air clutch
  have high : u.plantHigh = 4 * mode + check := by
    simp only [u, State.plantHigh, State.beginTake_frame, mode, check]
    cases s.modes.mode <;> cases s.store.selfCheck <;> rfl
  have weight : ∀ (b : Bool) (n : Nat), n * bit b = if b = true then n else 0 := by
    intro b n; cases b <;> simp [bit]
  have byte2 : u.plantByte2 = 64 * result + 16 * air + (if s.air.cabHigh = true then 8 else 0) +
      (if s.link.overrun = true then 4 else 0) + s.climate.effectiveSupply % 4 := by
    have overrun : u.link.overrun = s.link.overrun := by simp only [u, State.beginTake_link]
    simp only [State.plantByte2, weight, overrun, u, State.beginTake_frame, result, air]
    cases s.store.result <;> cases s.air.contamination <;> rfl
  have byte3 : u.plantByte3 = 64 * clutch + 4 * (fan / 256 % 4) + intake / 256 % 4 := by
    simp only [u, State.plantByte3, State.beginTake_frame, clutch, fan, intake]
    cases s.coolant.clutch <;> rfl
  refine congrArg Host.Outcome.next ((takes.take_eq request State.servePlant).trans ?_)
  refine (State.placeAnswer_one _ f .ok _ _).trans ?_
  rw [← high]
  refine congrArg (State.reply _ f .ok _) (vector_six_congr (congrArg _ byte2) (congrArg _ byte3) ?_ ?_ ?_ ?_)
  all_goals simp only [State.beginTake_frame] <;> rfl

/-! ## LIST -/

/-- The register's entries, one written (R41). -/
theorem State.entries_eq_set {s t : State} {st : Station} {e : StationEntry}
    (written : ∀ x, t.entry x = if x = st then e else s.entry x) :
    t.register.entries = s.register.entries.set st.val e := by
  refine Vector.ext fun i hi => ?_
  have at_i := written ⟨i, hi⟩
  rw [Vector.getElem_set]
  by_cases here : st.val = i
  · rw [if_pos here]
    exact at_i.trans (if_pos (Fin.ext here.symm))
  · rw [if_neg here]
    exact at_i.trans (if_neg fun same => here (congrArg Fin.val same).symm)

/-- A frame of a defined station that is counted and answered: the sender's entry (R47, R48, R59). -/
theorem State.entry_answered {s : State} {f : RxFrame} {rest : List RxFrame} {n : Nat} (length : f.data.length = 8)
    (defined : s.defined f.station = true) (a : Answer) (x : Station) :
    ((s.beginTake f rest n).placeAnswer f a).entry x =
      if x = f.station then { s.counted f.station with overrun := false } else s.entry x := by
  rw [State.entry_placeAnswer, State.answerMark, State.beginTake_defined, defined, Bool.true_and]
  simp only [State.entry_beginTake, length, defined, and_true, if_true]
  by_cases sender : x = f.station
  · subst sender
    simp only [true_and, if_true]
    by_cases mark : (s.counted f.station).overrun = true
    · rw [if_pos mark]
    · rw [if_neg mark, ← Bool.eq_false_iff.2 mark]
  · simp only [sender, false_and, if_false]

/-- The mark of an answer is the sender's flag, as it stands before the frame is counted (R59). -/
theorem State.answerMark_beginTake {s : State} {f : RxFrame} {rest : List RxFrame} {n : Nat}
    (defined : s.defined f.station = true) :
    (s.beginTake f rest n).answerMark f.station = (s.entry f.station).overrun := by
  rw [State.answerMark, State.beginTake_defined, defined, Bool.true_and, State.entry_beginTake]
  split <;> rfl

/-- Settles O26: the frames of an accepted LIST and what counting its frame leaves, and the refusals in their order. -/
theorem listSendsTheSlotsInOrder : Obligations.ListSendsTheSlotsInOrder := by
  unfold Obligations.ListSendsTheSlotsInOrder
  intro s f rest request
  refine ⟨?_, ?_⟩
  · intro t start defined target l k first place interval takes
    have gate : s.gate f = none := by simp [State.gate, start, defined]
    have checks : s.listChecks f = .ok t := by simp only [State.listChecks, gate, target]
    have room : s.listRoom f = k := by simp only [State.listRoom, checks]; rfl
    obtain ⟨length, code⟩ := (f.isRequest_iff 4).1 request
    have canTake : s.canTake (s.listRoom f) = true := by
      rw [room]; exact (s.canTake_iff k).2 ⟨takes.online, takes.noRestart, takes.room⟩
    have serve : (s.beginTake f rest k).serveList f = (s.beginTake f rest k, listAnswer l) := by
      simp only [State.serveList, State.beginTake_listChecks, checks, State.beginTake_list] <;> rfl
    have frames : (s.beginTake f rest k).answerFrames f (listAnswer l) = (List.range k).map (fun p => ({
        station := f.station
        data := #v[first, BitVec.ofNat 8 (16 * (((if p + 1 = k then 8 else 0) + p) % 16)),
          place p 0, place p 1, place p 2, place p 3, place p 4, place p 5] } : TxFrame)) := by
      simp only [State.answerFrames, listAnswer, List.map_map, State.answerMark_beginTake defined, answerByte0_eq, code]
      refine List.map_congr_left fun p _ => congrArg (TxFrame.mk f.station) ?_
      exact vector_eight_congr rfl (congrArg _ (Nat.mul_comm _ 16)) rfl rfl rfl rfl rfl rfl
    refine congrArg Host.Outcome.next ?_
    rw [State.take_head takes.head request canTake, room, serve]
    generalize taken : (s.beginTake f rest k).placeAnswer f (listAnswer l) = v
    have link : v.link = { s.link with
        rx := rest, reserved := 0, tx := s.link.tx ++ (s.beginTake f rest k).answerFrames f (listAnswer l) } := by
      rw [← taken, State.placeAnswer_link, State.beginTake_link]
    have entries : v.register.entries = s.register.entries.set f.station.val
        { s.counted f.station with overrun := false } := by
      rw [← taken]
      exact State.entries_eq_set (State.entry_answered length defined _)
    have frame : v = { s with
        link := v.link, register := { s.register with entries := v.register.entries } } := by
      rw [← taken, State.placeAnswer_eq, State.beginTake_eq]
    rw [frame, link, entries, frames]
    rfl
  · intro refused takes
    refine congrArg Host.Outcome.next ?_
    have room : s.canTake 1 = true := (s.canTake_iff 1).2 ⟨takes.online, takes.noRestart, takes.room⟩
    have refusal : ∀ st, s.listChecks f = .error st →
        s.take (fun f => f.isRequest 4) s.listRoom State.serveList =
          (s.beginTake f rest 1).reply f st 8 #v[0xFF, 0xFF, 0xFF, 0xFF, 0xFF, 0xFF] := fun st checks => by
      have one : s.listRoom f = 1 := by simp only [State.listRoom, checks]
      rw [State.take_head takes.head request (by rw [one]; exact room), one, State.serveList,
        State.beginTake_listChecks, checks]
      rfl
    rcases s.gate_cases f with ⟨start, gate⟩ | ⟨start, undefined, gate⟩ | ⟨start, defined, gate⟩
    · rw [if_pos start]
      exact refusal .notNow (by rw [State.listChecks, gate])
    · rw [if_neg start, if_pos undefined]
      exact refusal .notPermitted (by rw [State.listChecks, gate])
    · have absent : s.store.live.presentTarget (f.num 1) = none := by simpa [start, defined] using refused
      rw [if_neg start, if_neg (by rw [defined]; exact Bool.noConfusion)]
      exact refusal .badTarget (by rw [State.listChecks, gate, absent])

end Sys2Proof.Machine
end


section
/-! SUPPORT. The statements about the supply level, the clutch control, door boost and the blower's pause. -/

namespace Sys2Proof.Machine

/-! ## The supply level -/

theorem max_eq_ite (a b : Nat) : max a b = if b ≤ a then a else b := max_def' a b

/-- The recomputed supply level, and the SUPPLY lockout that its change judges (R68, R110). -/
theorem State.recomputeSupply_eq (s : State) :
    let level := if s.climate.voltageLevel ≤ s.register.supply then s.register.supply else s.climate.voltageLevel
    s.recomputeSupply = { s with
      climate := { s.climate with effectiveSupply := level }
      coolant := if level = s.climate.effectiveSupply then s.coolant
        else s.coolant.judge { s.coolant.lockouts with supply := decide (level = 3) } } := by
  intro level
  have level_eq : max s.register.supply s.climate.voltageLevel = level := max_eq_ite _ _
  rw [State.recomputeSupply, level_eq]
  by_cases same : s.climate.effectiveSupply = level
  · rw [if_pos same, if_pos same.symm]
  · rw [if_neg same, if_neg (fun e => same e.symm)]
    rfl

/-- Settles O38: the level recomputed, and nothing more out of RUN. -/
theorem allocationOutsideRunSetsSupplyLevel : Obligations.AllocationOutsideRunSetsSupplyLevel := by
  unfold Obligations.AllocationOutsideRunSetsSupplyLevel
  intro s rests level
  exact congrArg Host.Outcome.next ((if_neg rests).trans (State.recomputeSupply_eq _))

/-! ## The clutch control -/

theorem Lockouts.any_iff (l : Lockouts) : l.any = true ↔
    l.ambient = true ∨ l.freeze = true ∨ l.pressure = true ∨ l.supply = true ∨ l.sensor = true := by
  simp only [Lockouts.any, Bool.or_eq_true, or_assoc]

/-- The lockouts judged, by how the set changes and by the clutch state (R106, R111, R112, R114). -/
theorem CoolantControl.judge_eq (c : CoolantControl) (l : Lockouts) : c.judge l =
    if c.lockouts.any = false ∧ l.any = true then
      match c.clutch with
      | .off => { c with lockouts := l, clutch := .locked, guardTimer := none }
      | .on => { c with lockouts := l, clutch := .locked, guardTimer := some 30000, minOnTimer := none }
      | .guard => { c with lockouts := l }
      | .locked => { c with lockouts := l }
    else if c.lockouts.any = true ∧ l.any = false ∧ c.clutch = .locked then
      if c.guardTimer.isSome = true then { c with lockouts := l, clutch := .guard }
      else if c.cooling = true then
        { c with lockouts := l, clutch := .on, guardTimer := none, minOnTimer := some 10000 }
      else { c with lockouts := l, clutch := .off }
    else { c with lockouts := l } := by
  unfold CoolantControl.judge
  cases held : c.lockouts.any <;> cases holds : l.any
  · rfl
  · simp only [CoolantControl.lockoutComes]
    cases c.clutch <;> rfl
  · simp only [CoolantControl.lockoutsClear]
    cases state : c.clutch with
    | locked => cases c.guardTimer <;> cases c.cooling <;> rfl
    | off => rfl
    | on => rfl
    | guard => rfl
  · rfl

theorem CoolantControl.handCooling_eq (c : CoolantControl) (request : Bool) : c.handCooling request =
    if c.clutch = .off ∧ request = true ∧ c.cooling = false ∧ c.lockouts.any = false then
      { c with cooling := true, clutch := .on, guardTimer := none, minOnTimer := some 10000 }
    else if c.clutch = .on ∧ request = false ∧ c.cooling = true ∧ c.minOnTimer = none then
      { c with cooling := false, clutch := .guard, guardTimer := some 30000, minOnTimer := none }
    else { c with cooling := request } := by
  unfold CoolantControl.handCooling
  cases state : c.clutch with
  | off => cases request <;> cases kept : c.cooling <;> cases held : c.lockouts.any <;> rfl
  | on => cases request <;> cases kept : c.cooling <;> cases timer : c.minOnTimer <;> rfl
  | guard => rfl
  | locked => rfl

/-- Settles O39: the set of lockouts judged, and the requests handed. -/
theorem lockoutsActOnTheClutch : Obligations.LockoutsActOnTheClutch := by
  unfold Obligations.LockoutsActOnTheClutch
  exact ⟨CoolantControl.judge_eq, Lockouts.any_iff, CoolantControl.handCooling_eq, fun _ _ => rfl, fun c => beq_iff_eq⟩

theorem CoolantControl.guardExpiry_eq (c : CoolantControl) : c.guardExpiry =
    if c.guardTimer.isSome = true then
      match c.clutch with
      | .guard =>
        if c.lockouts.any = true then { c with guardTimer := none, clutch := .locked }
        else if c.cooling = true then { c with guardTimer := none, clutch := .on, minOnTimer := some 10000 }
        else { c with guardTimer := none, clutch := .off }
      | .off => { c with guardTimer := none }
      | .on => { c with guardTimer := none }
      | .locked => { c with guardTimer := none }
    else c := by
  unfold CoolantControl.guardExpiry
  cases c.guardTimer with
  | none => rfl
  | some ms => cases c.clutch <;> rfl

theorem CoolantControl.minOnExpiry_eq (c : CoolantControl) : c.minOnExpiry =
    if c.minOnTimer.isSome = true then
      if c.clutch = .on ∧ c.cooling = false then
        { c with clutch := .guard, guardTimer := some 30000, minOnTimer := none }
      else { c with minOnTimer := none }
    else c := by
  unfold CoolantControl.minOnExpiry
  cases c.minOnTimer with
  | none => rfl
  | some ms =>
    cases c.clutch with
    | on => cases request : c.cooling <;> simp [CoolantControl.release, Config.guardTime, request]
    | off => rfl
    | guard => rfl
    | locked => rfl

/-- Settles O43: the two timers' expiries, the pressure switch and the hold. -/
theorem clutchFollowsTimersAndPressure : Obligations.ClutchFollowsTimersAndPressure := by
  unfold Obligations.ClutchFollowsTimersAndPressure
  intro s c
  refine ⟨?_, ?_, fun isOpen => ?_, ?_⟩
  · exact congrArg (fun d => Host.Outcome.next { s with coolant := d }) c.guardExpiry_eq
  · exact congrArg (fun d => Host.Outcome.next { s with coolant := d }) c.minOnExpiry_eq
  · simp only [exec, execHighPressureSwitchChange]
    split
    · rfl
    · cases isOpen <;> rfl
  · refine congrArg (fun d => Host.Outcome.next { s with coolant := d }) ?_
    unfold CoolantControl.holdExpiry
    cases hold : s.coolant.pressureHold with
    | none => simp [c]
    | some ms => simp [c]

/-! ## Door boost and the blower's pause -/

theorem Pins.anyDoorOpen_iff (p : Pins) : p.anyDoorOpen = true ↔ ∃ d : Fin 6, p.doorsOpen[d.val] = true := by
  simp only [Pins.anyDoorOpen, List.any_eq_true, Vector.mem_toList_iff, Vector.mem_iff_getElem]
  constructor
  · rintro ⟨b, ⟨i, hi, at_i⟩, isOpen⟩
    exact ⟨⟨i, hi⟩, at_i.trans isOpen⟩
  · rintro ⟨d, isOpen⟩
    exact ⟨true, ⟨d.val, d.isLt, isOpen⟩, rfl⟩

theorem Pins.anyDoorOpen_eq_false_iff (p : Pins) : p.anyDoorOpen = false ↔ ∀ d : Fin 6, ¬ p.doorsOpen[d.val] = true := by
  rw [← not_exists, ← p.anyDoorOpen_iff, Bool.not_eq_true]

/-- Door boost is out of force with every door closed and the boost timer stopped (R131). -/
theorem State.doorBoost_eq_false_iff (s : State) : s.doorBoost = false ↔
    (∀ d : Fin 6, ¬ s.pins.doorsOpen[d.val] = true) ∧ s.intake.boostTimer = none := by
  rw [State.doorBoost, Bool.or_eq_false_iff, Pins.anyDoorOpen_eq_false_iff, Option.isSome_eq_false_iff,
    Option.isNone_iff_eq_none]

/-- The duty within the cap of supply level 3 (R134). -/
def State.cappedDuty (s : State) (duty : Nat) : Nat := if s.climate.effectiveSupply = 3 ∧ 600 < duty then 600 else duty

/-- The fan handed at a beginning or end of door boost (R134). -/
theorem State.boostHand_eq (s : State) :
    let driving := s.modes.mode = .run ∧ s.intake.pressurizing = true
    let duty := s.cappedDuty (if s.doorBoost then 1000 else s.intake.steppedDuty.getD 0)
    s.boostHand = { s with
      intake := { s.intake with outputDuty := if driving then duty else s.intake.outputDuty }
      fans := { s.fans with fanDuty := if driving then duty else s.fans.fanDuty } } := by
  intro driving duty
  unfold State.boostHand
  by_cases drives : driving
  · have composed : s.composeDuty = duty := by
      simp only [State.composeDuty, if_pos (show s.modes.mode = .run ∧ s.intake.pressurizing = true from drives), duty,
        State.cappedDuty, Config.fanCap]
      have cap : ∀ n : Nat, min n 600 = if 600 < n then 600 else n := fun n => by split <;> omega
      by_cases supply : s.climate.effectiveSupply = 3
      · simp only [supply, if_true, true_and, cap]
      · simp only [supply, if_false, false_and]
    rw [if_pos drives, if_pos drives, if_pos drives, State.handFan, composed]
  · rw [if_neg drives, if_neg drives, if_neg drives]

/-- Settles O46: the door switches, the boost timer, the over-current line and the pause. -/
theorem doorBoostAndBlowerPauseRun : Obligations.DoorBoostAndBlowerPauseRun := by
  unfold Obligations.DoorBoostAndBlowerPauseRun
  intro s capped driving opened pinsWith
  refine ⟨fun d b same => if_pos same, fun d closed => ?_, fun d isOpen => ?_, fun duty runs closed stepped => ?_,
    fun runs idle => ?_, fun stopped => ?_, fun asserted => ?_, ?_, rfl⟩
  · refine (if_neg closed).trans (congrArg Host.Outcome.next ?_)
    unfold State.doorChange
    simp only [if_true]
    have open_d : (pinsWith d true).anyDoorOpen = true :=
      (Pins.anyDoorOpen_iff _).2 ⟨d, Vector.getElem_set_self d.isLt⟩
    cases boost : s.doorBoost with
    | true =>
      have inForce : ¬ (driving ∧ (∀ x, ¬ opened x) ∧ s.intake.boostTimer = none) := fun ⟨_, idle⟩ =>
        Bool.false_ne_true ((s.doorBoost_eq_false_iff.2 idle).symm.trans boost)
      rw [if_neg inForce, if_neg inForce]
      rfl
    | false =>
      have idle : (driving ∧ (∀ x, ¬ opened x) ∧ s.intake.boostTimer = none) ↔ driving :=
        ⟨fun all => all.1, fun drives => ⟨drives, s.doorBoost_eq_false_iff.1 boost⟩⟩
      simp only [Bool.false_eq_true, if_false, idle]
      refine (State.boostHand_eq _).trans ?_
      have boosts : State.doorBoost { s with
          pins := pinsWith d true, intake := { s.intake with boostTimer := none } } = true := by
        rw [State.doorBoost, open_d]; rfl
      rw [boosts]
      rfl
  · have isOpen' : s.pins.doorsOpen[d.val] = true := isOpen
    refine (if_neg (by simp [isOpen'])).trans (congrArg Host.Outcome.next ?_)
    have others : (pinsWith d false).anyDoorOpen = true ↔ ∃ x, x ≠ d ∧ opened x := by
      rw [Pins.anyDoorOpen_iff]
      refine exists_congr fun x => ?_
      simp only [pinsWith, opened, Vector.getElem_set]
      by_cases same : d.val = x.val
      · simp [same, Fin.ext_iff]
      · simp [same, Fin.ext_iff, eq_comm (a := x.val)]
    unfold State.doorChange
    by_cases boosted : ∃ x, x ≠ d ∧ opened x
    · rw [if_pos boosted]
      exact if_pos (others.2 boosted)
    · rw [if_neg boosted]
      exact if_neg (fun any => boosted (others.1 any))
  · simp only [exec, execBoostTimerExpiry]
    obtain ⟨ms, timer⟩ := Option.isSome_iff_exists.1 runs
    rw [timer]
    refine congrArg Host.Outcome.next ((State.boostHand_eq _).trans ?_)
    have ended : State.doorBoost { s with intake := { s.intake with boostTimer := none } } = false :=
      (State.doorBoost_eq_false_iff _).2 ⟨closed, rfl⟩
    rw [ended]
    simp only [stepped, Option.getD_some, Bool.false_eq_true, if_false] <;> rfl
  · simp only [exec, execBoostTimerExpiry]
    obtain ⟨ms, timer⟩ := Option.isSome_iff_exists.1 runs
    rw [timer]
    exact congrArg Host.Outcome.next (if_neg (by simp [idle]))
  · simp only [exec, execBoostTimerExpiry, stopped]
  · simp only [exec, execOverCurrentAssertion]
    cases asserted <;> cases s.pins.overCurrent <;> rfl
  · simp only [exec, execPauseTimerExpiry]
    cases timer : s.fans.pauseTimer with
    | none =>
      have kept : s.fans = { s.fans with pauseTimer := none } := by rw [← timer]
      exact congrArg (fun x => Host.Outcome.next { s with fans := x }) kept
    | some ms => simp [Config.pauseTime]

end Sys2Proof.Machine
end


section
/-! SUPPORT. The statements about the targets that an actuator takes and about the events of its motion: each drive
operation by the actuator's state. -/

namespace Sys2Proof.Machine

namespace ActuatorDrive

variable (d : ActuatorDrive) (a b : ActuatorId)

/-! ## Reading and writing one actuator -/

theorem setAct_setAct (x y : Actuator) : (d.setAct a x).setAct a y = d.setAct a y := by
  simp [setAct]

theorem setAct_act : d.setAct a (d.act a) = d := by
  simp [setAct, act]

/-- The channels held, by the actuators that hold one (R151, R153). -/
theorem busy_eq : d.busy = ((List.finRange 17).filter (fun b => decide ((d.act b).state = .homing ∨
    (d.act b).state = .rehoming ∨ (d.act b).state = .moving))).length := by
  have listed : d.actuators.toList = (List.finRange 17).map d.act := by
    refine List.ext_getElem (by simp) fun i _ _ => ?_
    simp [act]
  rw [busy, listed, List.countP_map, List.countP_eq_length_filter]
  refine congrArg List.length (List.filter_congr fun b _ => ?_)
  simp only [Function.comp, Actuator.inMotion]
  cases (d.act b).state <;> rfl

/-- An actuator that holds no channel, written without giving it one, leaves the channels held (R153). -/
theorem busy_setAct_same {x : Actuator} (same : x.inMotion = (d.act a).inMotion) : (d.setAct a x).busy = d.busy := by
  have e := d.busy_setAct a x
  rw [same] at e
  omega

/-! ## Channels -/

theorem takeChannel_unhomed (unhomed : (d.act a).state = .unhomed) :
    d.takeChannel a = d.setAct a ((d.act a).beginHoming .homing) := by
  simp only [takeChannel, unhomed]

theorem takeChannel_ready (ready : (d.act a).state = .ready) :
    d.takeChannel a = d.setAct a { d.act a with state := .moving } := by
  simp only [takeChannel, ready]

/-- A READY actuator, its target written, that needs motion: a free channel, or the tail of the queue (R153). -/
theorem needMotion_ready {x : Actuator} (ready : (d.act a).state = .ready) (free : a ∉ d.queue)
    (state : x.state = .ready) : (d.setAct a x).needMotion a =
      if d.busy < 6 then d.setAct a { x with state := .moving } else { d.setAct a x with queue := d.queue ++ [a] } := by
  have busy : (d.setAct a x).busy = d.busy := d.busy_setAct_same a (by simp [Actuator.inMotion, ready, state])
  have here : ((d.setAct a x).act a).state = .ready := by rw [act_setAct_same, state]
  rw [needMotion, busy]
  by_cases channel : d.busy < 6
  · refine (if_pos channel).trans (Eq.trans ?_ (if_pos channel).symm)
    rw [takeChannel_ready _ _ here, act_setAct_same, setAct_setAct]
  · refine (if_neg channel).trans (Eq.trans ?_ (if_neg channel).symm)
    exact if_neg (by simp [waiting, free])

theorem takeChannel_others {y : ActuatorId} (other : y ≠ a) : (d.takeChannel a).act y = d.act y := by
  rcases d.takeChannel_cases a with ⟨_, e⟩ | ⟨_, e⟩ | ⟨_, _, e⟩
  · rw [e, act_setAct, if_neg other]
  · rw [e, act_setAct, if_neg other]
  · rw [e]

theorem takeChannel_queue : (d.takeChannel a).queue = d.queue := by
  rcases d.takeChannel_cases a with ⟨_, e⟩ | ⟨_, e⟩ | ⟨_, _, e⟩ <;> rw [e] <;> rfl

theorem handOver_cons {rest : List ActuatorId} (queued : d.queue = b :: rest) :
    d.handOver = ({ d with queue := rest } : ActuatorDrive).takeChannel b := by
  simp only [handOver, queued]

theorem handOver_nil (empty : d.queue = []) : d.handOver = d := by
  simp only [handOver, empty]

/-! ## Targets -/

section
variable {d a} (t : Nat)

theorem handTarget_kept (homes : (d.act a).state = .unhomed ∨ (d.act a).state = .homing ∨ (d.act a).state = .rehoming) :
    d.handTarget a t = d.setAct a { d.act a with target := t } := by
  rcases homes with e | e | e <;> simp only [handTarget, e]

theorem handTarget_faulted (faulted : (d.act a).state = .faulted) : d.handTarget a t = d := by
  simp only [handTarget, faulted]

theorem handTarget_ready (ready : (d.act a).state = .ready) (free : a ∉ d.queue) :
    d.handTarget a t = if t ≤ (d.act a).reported + 5 ∧ (d.act a).reported ≤ t + 5 then d
      else if d.busy < 6 then d.setAct a { d.act a with target := t, state := .moving }
      else { d.setAct a { d.act a with target := t } with queue := d.queue ++ [a] } := by
  have notWaiting : d.waiting a = false := by simpa [waiting] using free
  have within : ((d.act a).withinDeadband t = true) ↔ (t ≤ (d.act a).reported + 5 ∧ (d.act a).reported ≤ t + 5) := by
    simp only [Actuator.withinDeadband, Bool.and_eq_true, decide_eq_true_iff] <;> rfl
  have need := d.needMotion_ready a (x := { d.act a with target := t }) ready free ready
  simp only [ready] at need
  simp only [handTarget, ready, notWaiting, Bool.false_eq_true, if_false, within, need]

theorem handTarget_waiting {T n : Nat} (travel : (d.act a).travel = some T) (step : (d.act a).step = some n)
    (ready : (d.act a).state = .ready) (waits : a ∈ d.queue) :
    d.handTarget a t = if (2 * (T * t) + 1000) / 2000 = n
      then { (d.setAct a { d.act a with target := t }) with queue := d.queue.filter (· != a) }
      else d.setAct a { d.act a with target := t } := by
  have waiting : d.waiting a = true := by simpa [waiting] using waits
  simp only [handTarget, ready, waiting, if_true, Actuator.targetSteps, Actuator.travelOr0, Actuator.stepOr0, travel, step,
    Option.getD_some] <;> rfl

theorem handTarget_moving {T n : Nat} (travel : (d.act a).travel = some T) (step : (d.act a).step = some n)
    (moving : (d.act a).state = .moving) :
    d.handTarget a t = if (2 * (T * t) + 1000) / 2000 = n
      then (d.setAct a { d.act a with target := t, state := .ready, phase := .none, rehomeMark := false }).handOver
      else d.setAct a { d.act a with target := t } := by
  have stops : (d.setAct a { d.act a with target := t }).enterReady a =
      (d.setAct a { d.act a with target := t, state := .ready, phase := .none, rehomeMark := false }).handOver := by
    rw [enterReady, act_setAct_same, setAct_setAct]
  simp only [moving, travel, step] at stops
  simp only [handTarget, moving, Actuator.targetSteps, Actuator.travelOr0, Actuator.stepOr0, travel, step,
    Option.getD_some, stops] <;> rfl

end

end ActuatorDrive

/-- Settles O50: a target by the actuator's state, and the channel handed on. -/
theorem targetsAreTakenByState : Obligations.TargetsAreTakenByState := by
  unfold Obligations.TargetsAreTakenByState
  intro d a t T n
  refine ⟨d.busy_eq, d.handTarget_kept t, d.handTarget_faulted t, fun ready free => ?_, fun travel step =>
    ⟨d.handTarget_waiting t travel step, d.handTarget_moving t travel step⟩,
    d.handOver_nil, fun b rest queued => ?_⟩
  · rw [d.handTarget_ready t ready free]
    refine ⟨fun low high => if_pos ⟨low, high⟩, fun far => if_neg ?_⟩
    omega
  · rw [d.handOver_cons b queued]
    exact ⟨ActuatorDrive.takeChannel_queue _ b, fun y other => ActuatorDrive.takeChannel_others _ b other,
      fun unhomed => (congrArg (·.act b)
        (ActuatorDrive.takeChannel_unhomed { d with queue := rest } b unhomed)).trans (d.act_setAct_same b _),
      fun ready => (congrArg (·.act b)
        (ActuatorDrive.takeChannel_ready { d with queue := rest } b ready)).trans (d.act_setAct_same b _)⟩

/-! ## The events of a motion -/

section
variable {x : Actuator}

theorem Actuator.drive_closing (homing : x.state = .homing ∨ x.state = .rehoming) (closing : x.phase = .closing)
    (high : Nat) (low : x.count < 5000) : x.drive high = { x with count := x.count + 1 } := by
  have counts : (if x.count < Config.closingSteps then { x with count := x.count + 1 } else x) =
    { x with count := x.count + 1 } := if_pos low
  rcases homing with e | e <;> simp only [Actuator.drive, e, closing] at counts ⊢ <;> exact counts

theorem Actuator.drive_opening (homing : x.state = .homing ∨ x.state = .rehoming) (opening : x.phase = .opening)
    {high : Nat} (low : x.count ≤ high) : x.drive high = { x with count := x.count + 1 } := by
  have counts : (if x.count ≤ high then { x with count := x.count + 1 } else x) =
    { x with count := x.count + 1 } := if_pos low
  rcases homing with e | e <;> simp only [Actuator.drive, e, opening] at counts ⊢ <;> exact counts

/-- A known step position is where the target asks (R150, R155). -/
theorem Actuator.stepOr0_eq_targetSteps_iff {T n : Nat} (travel : x.travel = some T) (step : x.step = some n) :
    x.stepOr0 = x.targetSteps ↔ n = (2 * (T * x.target) + 1000) / 2000 := by
  simp only [Actuator.targetSteps, Actuator.travelOr0, Actuator.stepOr0, travel, step, Option.getD_some] <;> rfl

/-- One step of a move towards the target (R155, R150). -/
theorem Actuator.drive_moving {T n : Nat} (moving : x.state = .moving) (travel : x.travel = some T) (step : x.step = some n)
    (high : Nat) :
    let goal := (2 * (T * x.target) + 1000) / 2000
    let n' := if n < goal then n + 1 else n - 1
    x.drive high = if n = goal then x else { x with step := some n', reported := (2 * (1000 * n') + T) / (2 * T) } := by
  intro goal n'
  have goal_eq : x.targetSteps = goal := by simp only [Actuator.targetSteps, Actuator.travelOr0, travel] <;> rfl
  have step_eq : x.stepOr0 = n := by simp only [Actuator.stepOr0, step] <;> rfl
  have travel_eq : x.travelOr0 = T := by simp only [Actuator.travelOr0, travel] <;> rfl
  unfold Actuator.drive
  split
  case h_3 => simp only [goal_eq, step_eq, travel_eq] <;> rfl
  all_goals simp_all

end

namespace ActuatorDrive

variable {d : ActuatorDrive} {a : ActuatorId}

theorem homingStall_closing (homing : (d.act a).state = .homing ∨ (d.act a).state = .rehoming)
    (closing : (d.act a).phase = .closing) (low high : Nat) : d.homingStall a low high =
      d.setAct a { d.act a with phase := .opening, step := some 0, reported := 0, count := 0 } := by
  rcases homing with e | e <;> simp only [homingStall, e, closing]

theorem homed_eq (travel : Nat) : d.homed a travel =
    if (2 * (travel * (d.act a).target) + 1000) / 2000 = travel then
      (d.setAct a { d.act a with
        state := .ready, phase := .none, travel := some travel, step := some travel, reported := 1000,
        rehomeMark := false }).handOver
    else d.setAct a { d.act a with
      state := .moving, phase := .none, travel := some travel, step := some travel, reported := 1000 } := by
  unfold homed
  simp only [enterReady, act_setAct_same, setAct_setAct] <;> rfl

/-- The opening phase ends with the travel measured, or with the fault TRAVEL (R152). -/
theorem homingStall_opening (homing : (d.act a).state = .homing ∨ (d.act a).state = .rehoming)
    (opening : (d.act a).phase = .opening) (low high : Nat) : d.homingStall a low high =
      if (d.act a).count < low ∨ high < (d.act a).count then
        (d.setAct a { d.act a with state := .faulted, phase := .none, reason := .travel }).handOver
      else d.homed a (d.act a).count := by
  have judged : d.homingStall a low high = if low ≤ (d.act a).count ∧ (d.act a).count ≤ high
      then d.homed a (d.act a).count else d.enterFaulted a .travel := by
    rcases homing with e | e <;> simp only [homingStall, e, opening]
  rw [judged]
  by_cases outside : (d.act a).count < low ∨ high < (d.act a).count
  · rw [if_pos outside, if_neg (by omega)]; rfl
  · rw [if_neg outside, if_pos (by omega)]

theorem inMotion_of_homing {x : Actuator} (homing : x.state = .homing ∨ x.state = .rehoming) : x.inMotion = true := by
  rcases homing with e | e <;> simp only [Actuator.inMotion, e]

theorem not_inMotion {x : Actuator} (still : x.state = .unhomed ∨ x.state = .ready ∨ x.state = .faulted) :
    x.inMotion = false := by
  rcases still with e | e | e <;> simp only [Actuator.inMotion, e]

/-- An actuator that is not in motion gives no event of a motion an occasion (log 2). -/
theorem events_still (still : (d.act a).state = .unhomed ∨ (d.act a).state = .ready ∨ (d.act a).state = .faulted)
    (low high : Nat) : d.moveComplete a = d ∧ d.homingStall a low high = d ∧ d.noStop a = d ∧ d.travelOverrun a high = d ∧
      d.stall a = d := by
  have noMotion : ¬ ((d.act a).inMotion = true) := by rw [not_inMotion still]; exact Bool.false_ne_true
  have noMove : (d.act a).state ≠ .moving := fun e => noMotion (by simp only [Actuator.inMotion, e])
  refine ⟨if_neg fun h => noMove h.1, ?_, if_neg fun h => noMotion h.1, if_neg fun h => noMotion h.1,
    if_neg fun h => noMove h.1⟩
  rcases still with e | e | e <;> simp only [homingStall, e]

end ActuatorDrive

/-- An event of an absent actuator changes nothing (R149). -/
theorem State.exec_absent_actuator {s : State} {a : ActuatorId} (absent : s.actPresent a = false) {c : Instr}
    (event : c ∈ [Instr.actuatorStep a, .moveComplete a, .homingStall a, .homingNoStop a, .homingTravelOverrun a, .stall a]) :
    exec c s = .next s := by
  have off : ¬ (s.actPresent a = true) := by rw [absent]; exact Bool.false_ne_true
  have events : ∀ f, s.actEvent a f = s := fun f => if_neg off
  simp only [List.mem_cons, List.not_mem_nil, or_false] at event
  rcases event with rfl | rfl | rfl | rfl | rfl | rfl
  · exact congrArg Host.Outcome.next (if_neg off)
  all_goals exact congrArg Host.Outcome.next (events _)

/-- An event of an actuator that is not in motion changes nothing, where no homing waits to complete (log 2). -/
theorem State.exec_still_actuator {s : State} {a : ActuatorId} (waits : s.homingOpen)
    (still : (s.drive.act a).state = .unhomed ∨ (s.drive.act a).state = .ready ∨ (s.drive.act a).state = .faulted) {c : Instr}
    (event : c ∈ [Instr.moveComplete a, .homingStall a, .homingNoStop a, .homingTravelOverrun a, .stall a]) :
    exec c s = .next s := by
  have idle : ∀ f : ActuatorDrive → ActuatorDrive, f s.drive = s.drive → s.actEvent a f = s := fun f same => by
    unfold State.actEvent
    rw [same]
    split
    · exact if_neg waits
    · rfl
  obtain ⟨move, stall, noStop, overrun, stalled⟩ :=
    ActuatorDrive.events_still still s.store.live.travelLow s.store.live.travelHigh
  simp only [List.mem_cons, List.not_mem_nil, or_false] at event
  rcases event with rfl | rfl | rfl | rfl | rfl <;> refine congrArg Host.Outcome.next (idle _ ?_)
  · exact move
  · exact stall
  · exact noStop
  · exact overrun
  · exact stalled

/-- Settles O51: the events by the actuator's state and phase. -/
theorem actuatorEventsDriveHomingAndMoves : Obligations.ActuatorEventsDriveHomingAndMoves := by
  unfold Obligations.ActuatorEventsDriveHomingAndMoves
  intro s a x d low high free keep homing goal
  refine ⟨fun absent c event => State.exec_absent_actuator absent event, fun present => ?_⟩
  have step : ∀ y, x.drive high = y → exec (.actuatorStep a) s = .next { s with drive := d.setAct a y } := fun y e =>
    congrArg Host.Outcome.next ((if_pos present).trans (by rw [← e]))
  have event : ∀ (f : ActuatorDrive → ActuatorDrive) (e : ActuatorDrive), f d = e →
      s.actEvent a f = ({ s with drive := e } : State).homingCheck := fun f e same => by
    rw [← same]; exact if_pos present
  refine ⟨fun homes closing => ⟨fun low => ?_, fun last => ?_, ?_⟩, fun homes opening => ⟨fun low => ?_, fun past => ?_, ?_⟩,
    fun T n moving travel at_n => ⟨fun short => ⟨?_, ?_⟩, fun there => ⟨?_, ?_⟩⟩,
    fun waits still c member => State.exec_still_actuator waits still member⟩
  · exact step _ (Actuator.drive_closing homes closing high low)
  · exact congrArg Host.Outcome.next (event _ _ (if_pos ⟨ActuatorDrive.inMotion_of_homing homes, closing, last.ge⟩))
  · exact congrArg Host.Outcome.next (event _ _ (ActuatorDrive.homingStall_closing homes closing _ _))
  · exact step _ (Actuator.drive_opening homes opening low)
  · exact congrArg Host.Outcome.next (event _ _ (if_pos ⟨ActuatorDrive.inMotion_of_homing homes, opening, past⟩))
  · have stalled : d.homingStall a low high = if x.count < low ∨ high < x.count then _ else d.homed a x.count :=
      ActuatorDrive.homingStall_opening homes opening low high
    rw [ActuatorDrive.homed_eq] at stalled
    refine congrArg Host.Outcome.next ((event _ _ stalled).trans ?_)
    exact (apply_ite (fun e => State.homingCheck { s with drive := e }) _ _ _).trans
      (ite_congr rfl (fun _ => rfl) fun _ => apply_ite (fun e => State.homingCheck { s with drive := e }) _ _ _)
  · exact step _ ((Actuator.drive_moving moving travel at_n high).trans (if_neg short))
  · have short' : x.state = .moving ∧ x.stepOr0 ≠ x.targetSteps :=
      ⟨moving, fun e => short ((Actuator.stepOr0_eq_targetSteps_iff travel at_n).1 e)⟩
    refine congrArg Host.Outcome.next ((event _ _ (if_pos short')).trans ?_)
    by_cases mark : x.rehomeMark = true
    · rw [if_pos mark, if_pos mark]; rfl
    · rw [if_neg mark, if_neg mark]; rfl
  · exact step _ ((Actuator.drive_moving moving travel at_n high).trans (if_pos there))
  · have there' : x.state = .moving ∧ x.stepOr0 = x.targetSteps :=
      ⟨moving, (Actuator.stepOr0_eq_targetSteps_iff travel at_n).2 there⟩
    exact congrArg Host.Outcome.next (event _ _ (if_pos there'))

end Sys2Proof.Machine
end


section
/-! SUPPORT. The statements about the lapse of a station and the duration timer: what the retirement of a set leaves of the
entries, and the count-down of the records. -/

namespace Sys2Proof.Machine

/-! ## The entries after a retirement -/

/-- A retirement gives back what it takes: quota and live records of a station together stay (R45). -/
theorem State.quota_retireIf (s : State) (reason : Reason) (p : Record → Bool) (n : Slot) (st : Station) :
    ((s.retireIf reason p n).entry st).quota + (s.retireIf reason p n).liveCount st =
      (s.entry st).quota + s.liveCount st := by
  have count := State.liveCount_update (s := s) (t := s.retireIf reason p n) n
    (fun m other => by rw [State.record_retireIf, if_neg other]) st
  rw [State.record_retireIf, if_pos rfl] at count
  cases live : s.record n with
  | none =>
    have same : s.retireIf reason p n = s := by simp [State.retireIf, live]
    rw [same]
  | some r =>
    cases goes : p r with
    | false =>
      have same : s.retireIf reason p n = s := by simp [State.retireIf, live, goes]
      rw [same]
    | true =>
      have quota : ((s.retireIf reason p n).entry st).quota = ((s.retire n).entry st).quota := by
        simp only [State.retireIf, live, goes, if_true, State.retireNoticed]
        rcases (s.retire n).handNotice_entry r.station st .retire (r.notice .retire reason.code n) with e | e <;> rw [e]
      rw [quota, State.entry_retire s n r live]
      rw [live] at count
      by_cases own : st = r.station
      · subst own
        simp [Option.filter, goes] at count ⊢
        omega
      · have other : (r.station == st) = false := by simpa using fun e => own e.symm
        simp [Option.filter, goes, other] at count
        rw [if_neg own, count]

theorem State.quota_retireAll (s : State) (reason : Reason) (p : Record → Bool) (st : Station) :
    ((s.retireAll reason p).entry st).quota + (s.retireAll reason p).liveCount st = (s.entry st).quota + s.liveCount st := by
  have key : ∀ (l : List Slot) (s : State),
      ((l.foldl (fun s n => s.retireIf reason p n) s).entry st).quota +
        (l.foldl (fun s n => s.retireIf reason p n) s).liveCount st = (s.entry st).quota + s.liveCount st := fun l => by
    induction l with
    | nil => exact fun s => rfl
    | cons n l ih => exact fun s => (ih _).trans (s.quota_retireIf reason p n st)
  exact key _ s

/-- A station none of whose records goes keeps its entry, its notice-overrun flag too. -/
theorem State.entry_retireAll_other (s : State) (reason : Reason) (p : Record → Bool) (st : Station)
    (spared : ∀ r, p r = true → r.station ≠ st) : (s.retireAll reason p).entry st = s.entry st := by
  have one : ∀ (s : State) (n : Slot), (s.retireIf reason p n).entry st = s.entry st := fun s n => by
    unfold State.retireIf
    cases live : s.record n with
    | none => rfl
    | some r =>
      dsimp only
      split
      · rename_i goes
        have other : st ≠ r.station := fun e => spared r goes e.symm
        have retired : (s.retire n).entry st = s.entry st := (s.entry_retire n r live st).trans (if_neg other)
        simp only [State.retireNoticed, live]
        rcases (s.retire n).handNotice_cases r.station .retire (r.notice .retire reason.code n) with
          ⟨_, e⟩ | ⟨_, _, _, e⟩ | ⟨_, _, _, e⟩ <;> rw [e]
        · exact retired
        · exact (State.entry_congr rfl st).trans retired
        · exact ((State.entry_setEntry _ _ _ _).trans (if_neg other)).trans retired
      · rfl
  unfold State.retireAll
  generalize List.finRange 40 = l
  induction l generalizing s with
  | nil => rfl
  | cons n l ih => exact (ih _).trans (one s n)

/-- A retirement of a set changes the slots, the lists, the entries and the link alone. -/
theorem State.retireAll_eq (s : State) (reason : Reason) (p : Record → Bool) :
    let t := s.retireAll reason p
    t = { s with
      table := { s.table with slots := t.table.slots, lists := t.table.lists },
      register := { s.register with entries := t.register.entries }, link := t.link } := by
  have rest := s.retireAll_rest reason p
  exact State.eq_of_retired (by simp) rest.locks rest.supply rest.postSeq rest.duration

/-! ## A lapse -/

theorem State.lockOf_freeLocksOf (s : State) (st : Station) (u : Target) :
    (s.freeLocksOf st).lockOf u = if s.lockOf u = some st then none else s.lockOf u := by
  unfold State.lockOf State.freeLocksOf
  exact Vector.getElem_ofFn _

theorem State.lapse_running {s : State} {st : Station} {ms : Nat} (runs : (s.entry st).lapse = .running ms) :
    let w := s.retireAll .lapsed (fun r => r.station == st)
    s.lapse st = (w.freeLocksOf st).setEntry st { w.entry st with presence := .silent, lapse := .stopped } := by
  intro w
  have frees : ∀ w : State, (w.freeLocksOf st).setEntry st
      { (w.freeLocksOf st).entry st with presence := .silent, lapse := .stopped } =
      (w.freeLocksOf st).setEntry st { w.entry st with presence := .silent, lapse := .stopped } := fun w => rfl
  unfold State.lapse
  rw [runs]
  exact frees w

/-- Settles O28: the retirement of the station's records, the freed locks, and its own entry. -/
theorem lapseRetiresTheStationsRecords : Obligations.LapseRetiresTheStationsRecords := by
  unfold Obligations.LapseRetiresTheStationsRecords
  intro s st
  refine ⟨fun ms runs => ?_, fun still => ?_⟩
  · have lapsed := State.lapse_running runs
    have frame := s.retireAll_eq .lapsed (fun r => r.station == st)
    have records := fun n => s.record_retireAll .lapsed (fun r => r.station == st) n
    have quota := s.quota_retireAll .lapsed (fun r => r.station == st) st
    have kept := State.EntriesKept.retireAll s .lapsed (fun r => r.station == st)
    have others := fun x (other : x ≠ st) => s.entry_retireAll_other .lapsed (fun r => r.station == st) x
      (fun r own => by have : r.station = st := by simpa using own
                       exact fun e => other (e.symm.trans this))
    have lists := fun u => s.list_retireAll .lapsed (fun r => r.station == st) u
    have notices := s.retireAll_after .lapsed (fun r => r.station == st)
    generalize s.retireAll .lapsed (fun r => r.station == st) = w at lapsed frame records quota kept others lists notices
    refine ⟨s.lapse st, rfl, ?_⟩
    rw [lapsed]
    generalize changed : { w.entry st with presence := .silent, lapse := .stopped } = e
    have entry : ∀ x, ((w.freeLocksOf st).setEntry st e).entry x = if x = st then e else w.entry x := fun x =>
      State.entry_setEntry _ _ _ _
    have gone : w.liveCount st = 0 := List.countP_eq_zero.2 fun n _ => by
      rw [records n]
      cases s.record n with
      | none => simp
      | some r => by_cases own : r.station = st <;> simp [Option.filter, own]
    refine ⟨?_, fun n => ?_, fun u => ?_, ?_, ?_, ?_, ?_, fun x other => ?_, ?_, fun sound u => ?_⟩
    · rw [frame]; rfl
    · refine (records n).trans ?_
      cases s.record n with
      | none => rfl
      | some r => by_cases own : r.station = st <;> simp [Option.filter, own]
    · have locks : w.lockOf u = s.lockOf u := by rw [frame]; rfl
      exact (w.lockOf_freeLocksOf st u).trans (by rw [locks])
    · rw [entry, if_pos rfl, ← changed]
    · rw [entry, if_pos rfl, ← changed]
    · rw [entry, if_pos rfl, ← changed]
      exact (Nat.add_zero _).symm.trans (gone ▸ quota)
    · rw [entry, if_pos rfl, ← changed]
      exact kept.mask st
    · rw [entry, if_neg other]
      exact others x other
    · have same : State.SameNotices ((w.freeLocksOf st).setEntry st e) w := by
        refine ⟨rfl, fun x => ?_, fun x => ?_⟩ <;> rw [entry, ← changed] <;> split
        · rename_i own; rw [own]
        · rfl
        · rename_i own; rw [own]
        · rfl
      have picked : (fun r : Record => if (r.station == st) = true then some r else none) =
          fun r => if r.station = st then some r else none := by funext r; simp only [beq_iff_eq]
      rw [picked] at notices
      exact notices.congr_left same
    · refine (lists u).trans (List.filter_congr fun n member => ?_)
      obtain ⟨r, live, target⟩ := (sound.exact n u).1 member
      simp [live, target, bne]
  · refine congrArg Host.Outcome.next ?_
    unfold State.lapse
    split
    · rename_i ms runs; exact absurd runs (still ms)
    · rfl
    · rfl

/-! ## The count-down -/

theorem Record.counts_iff (r : Record) :
    r.counts = true ↔ (r.kind = .rehab ∨ r.kind = .purge) ∧ (r.state = .active ∨ r.state = .limited) := by
  unfold Record.counts
  cases r.kind <;> cases r.state <;> simp [Kind.timed, RecState.counting]

/-- A record has run out after a second exactly where it counts with at most a second left (R19, R20). -/
theorem Record.ranOut_countDown (r : Record) :
    r.countDown.ranOut = (r.counts && r.value.any (fun v => decide (v ≤ 1))) := by
  cases counts : r.counts with
  | false => simp [Record.countDown, Record.ranOut, counts]
  | true =>
    have still : ({ r with value := r.value.map (fun v => v - 1) } : Record).counts = true := counts
    simp only [Record.countDown, counts, if_true, Record.ranOut, still, Bool.true_and]
    cases r.value with
    | none => rfl
    | some v => by_cases last : v ≤ 1 <;> simp [last]; omega

/-- What a second leaves of a record (R19, R20). -/
theorem Record.countDown_kept (r : Record) : (some r.countDown).filter (fun q => !q.ranOut) =
    if (r.kind = .rehab ∨ r.kind = .purge) ∧ (r.state = .active ∨ r.state = .limited) then
      match r.value with
      | none => some r
      | some v => if v ≤ 1 then none else some { r with value := some (v - 1) }
    else some r := by
  simp only [Option.filter, r.ranOut_countDown, ← r.counts_iff]
  cases counts : r.counts with
  | false => simp [Record.countDown, counts]
  | true =>
    cases value : r.value with
    | none =>
      have same : ({ r with value := none } : Record) = r := by rw [← value]
      simp [Record.countDown, counts, value, same]
    | some v => by_cases last : v ≤ 1 <;> simp [Record.countDown, counts, value, last]

theorem State.record_countDownAll (s : State) (n : Slot) :
    s.countDownAll.record n = (s.record n).map Record.countDown := by simp [State.countDownAll, State.record]

/-- The RETIRE notice of a record that runs out carries it with no seconds left (R20, R21). -/
theorem State.retireNotices_countDownAll (s : State) (reason : Nat) :
    s.countDownAll.retireNotices reason (fun r => if r.ranOut = true then some r else none) =
      s.retireNotices reason (fun r =>
        if r.counts = true ∧ r.value.any (fun v => decide (v ≤ 1)) = true then some { r with value := some 0 } else none) := by
  unfold State.retireNotices
  refine List.filterMap_congr fun n _ => ?_
  rw [State.record_countDownAll]
  cases s.record n with
  | none => rfl
  | some r =>
    simp only [Option.map_some, Option.bind_some, r.ranOut_countDown, Bool.and_eq_true]
    by_cases ends : r.counts = true ∧ r.value.any (fun v => decide (v ≤ 1)) = true
    · obtain ⟨counts, last⟩ := ends
      obtain ⟨v, value, atMost⟩ : ∃ v, r.value = some v ∧ v ≤ 1 := by simpa [Option.any_eq_true] using last
      have zero : v - 1 = 0 := by omega
      have down : r.countDown = { r with value := some 0 } := by simp [Record.countDown, counts, value, zero]
      simp only [counts, last, and_self, if_true, down]
    · simp only [ends, if_false]

/-- The state in which the records that run out are retired. -/
def State.seconds (s : State) : State :=
  State.countDownAll { s with table := { s.table with durationTimer := some 1000 } }

theorem State.exec_duration (s : State) : exec .durationTimerExpiry s =
    .next ((s.seconds.retireAll .expired Record.ranOut).repostPurge s.seconds.purgeRanOut) := rfl

theorem State.record_seconds (s : State) (n : Slot) : s.seconds.record n = (s.record n).map Record.countDown :=
  State.record_countDownAll _ n

theorem State.purgeRanOut_iff (s : State) : s.seconds.purgeRanOut = true ↔
    ∃ r v, s.record purgeSlot = some r ∧ r.counts = true ∧ r.value = some v ∧ v ≤ 1 := by
  unfold State.purgeRanOut
  rw [State.record_seconds]
  cases s.record purgeSlot with
  | none => simp
  | some r => simp [r.ranOut_countDown, Option.any_eq_true]

/-- The expiry where no PURGE is posted anew: the count-down and the retirements (R19 to R22, R27, R45). -/
theorem State.seconds_retired (s : State) :
    let t := s.seconds.retireAll .expired Record.ranOut
    t = { s with table := t.table, register := t.register, link := t.link } ∧
    t.table.durationTimer = some 1000 ∧ t.table.postSeq = s.table.postSeq ∧
    (∀ n, t.record n = match s.record n with
      | none => none
      | some r =>
        if (r.kind = .rehab ∨ r.kind = .purge) ∧ (r.state = .active ∨ r.state = .limited) then
          match r.value with
          | none => some r
          | some v => if v ≤ 1 then none else some { r with value := some (v - 1) }
        else some r) ∧
    (∀ u, t.list u = (s.list u).filter (fun n =>
      ! (s.record n).any (fun r => r.target == u && r.counts && r.value.any (fun v => decide (v ≤ 1))))) ∧
    t.AfterNotices s (s.retireNotices 2 (fun r =>
      if r.counts = true ∧ r.value.any (fun v => decide (v ≤ 1)) = true then some { r with value := some 0 } else none)) ∧
    (∀ st, (t.entry st).quota + t.liveCount st = (s.entry st).quota + s.liveCount st ∧
      (t.entry st).presence = (s.entry st).presence ∧ (t.entry st).lapse = (s.entry st).lapse ∧
      (t.entry st).mask = (s.entry st).mask) ∧
    (∀ u, t.lockOf u = s.lockOf u) ∧ t.register.supply = s.register.supply := by
  intro t
  have rest := s.seconds.retireAll_rest .expired Record.ranOut
  have register : s.seconds.register = s.register := by simp [State.seconds]
  have rewritten : s.seconds.Rewritten s := (State.Rewritten.countDownAll _).trans
    ⟨fun n => .inl rfl, fun u => rfl, rfl, rfl, fun st => rfl⟩
  have kept := State.EntriesKept.retireAll s.seconds .expired Record.ranOut
  have entries : ∀ st, s.seconds.entry st = s.entry st := State.entry_congr (by rw [register])
  have timer : s.seconds.table.durationTimer = some 1000 := rfl
  refine ⟨State.eq_of_frame ?_, ?_, ?_, fun n => ?_, fun u => ?_, ?_,
    fun st => ⟨?_, ?_, ?_, ?_⟩, fun u => ?_, ?_⟩
  · simp [t, State.seconds]
  · rw [rest.duration, timer]
  · rw [rest.postSeq, rewritten.counter]
  · rw [State.record_retireAll, State.record_seconds]
    cases s.record n with
    | none => rfl
    | some r => exact r.countDown_kept
  · rw [State.list_retireAll, rewritten.lists]
    refine List.filter_congr fun n _ => ?_
    rw [State.record_seconds]
    cases s.record n with
    | none => rfl
    | some r =>
      have target : r.countDown.target = r.target := by unfold Record.countDown; split <;> rfl
      simp [r.ranOut_countDown, target, Bool.and_assoc]
  · have notices := s.seconds.retireAll_after .expired Record.ranOut
    rw [show s.seconds.retireNotices Reason.expired.code _ = _ from State.retireNotices_countDownAll _ 2] at notices
    exact notices.congr_right (State.sameNotices_of (by simp [State.seconds]) register)
  · have quota := s.seconds.quota_retireAll .expired Record.ranOut st
    rwa [entries, rewritten.liveCount] at quota
  · rw [kept.presence, entries]
  · rw [kept.lapse, entries]
  · rw [kept.mask, entries]
  · simp only [State.lockOf, t, rest.locks, register]
  · rw [rest.supply, register]

/-! ## The internal PURGE posted anew -/

/-- The retirement of a set does not read the monitor. -/
theorem State.retireAll_withAir (s : State) (reason : Reason) (p : Record → Bool) (m : AirMonitor) :
    ({ s with air := m } : State).retireAll reason p = { s.retireAll reason p with air := m } := by
  have notice : ∀ (s : State) (st : Station) (c : Category) (d : Vector Byte 8),
      ({ s with air := m } : State).handNotice st c d = { s.handNotice st c d with air := m } := fun s st c d => by
    rcases s.handNotice_cases st c d with ⟨silent, e⟩ | ⟨named, masked, room, e⟩ | ⟨named, masked, full, e⟩ <;> rw [e]
    · exact if_pos silent
    · have heard : ¬ (st = 0 ∨ (s.entry st).mask.getLsbD c.bit = false) := by simp [named, masked]
      exact (if_neg heard).trans (if_pos room)
    · have heard : ¬ (st = 0 ∨ (s.entry st).mask.getLsbD c.bit = false) := by simp [named, masked]
      have noRoom : ¬ (s.noticeRoom = true) := by simp [full]
      exact (if_neg heard).trans (if_neg noRoom)
  have one : ∀ (s : State) (n : Slot),
      ({ s with air := m } : State).retireIf reason p n = { s.retireIf reason p n with air := m } := fun s n => by
    have record : ({ s with air := m } : State).record n = s.record n := rfl
    have retired : ({ s with air := m } : State).retire n = { s.retire n with air := m } := by
      unfold State.retire
      rw [record]
      cases s.record n <;> rfl
    unfold State.retireIf State.retireNoticed
    rw [record]
    cases s.record n with
    | none => rfl
    | some r =>
      dsimp only
      split
      · rw [retired, notice]
      · rfl
  unfold State.retireAll
  generalize List.finRange 40 = l
  induction l generalizing s with
  | nil => rfl
  | cons n l ih => rw [List.foldl_cons, List.foldl_cons, one, ih]

namespace State.Creates

variable {s t : State} {n : Slot} {r : Record} (c : t.Creates s n r)
include c

/-- The displaced record is QUEUED (R31). -/
theorem displaced {m : Slot} (other : m ≠ n) (goes : s.displacedBy r.target r.kind.cls m) :
    t.record m = (s.record m).map (fun q => { q with state := .queued }) := by
  obtain ⟨head, ahead, judged⟩ := goes
  rw [c.old m other]
  cases live : s.record m with
  | none => rfl
  | some q =>
    rw [live] at judged
    exact congrArg some (if_pos ⟨head, ahead, judged⟩)

/-- Every other record stays (R31). -/
theorem undisplaced {m : Slot} (other : m ≠ n) (stays : ¬ s.displacedBy r.target r.kind.cls m) :
    t.record m = s.record m := by
  rw [c.old m other]
  cases live : s.record m with
  | none => rfl
  | some q => exact congrArg some (if_neg fun ⟨head, ahead, judged⟩ => stays ⟨head, ahead, by rw [live]; exact judged⟩)

end State.Creates

/-- The internal PURGE as it is posted (R15, R127). -/
def internalPurge (s : State) : Record :=
  { target := 8, station := 0, kind := .purge, postSeq := 0, level := none,
    value := some (60 * s.store.live.purgeMinutes), grantedFlow := none, grantedLevel := none }

/-- Settles O27: the count-down and the retirements, and then the PURGE posted anew. -/
theorem durationExpiryCountsDownServedRecords : Obligations.DurationExpiryCountsDownServedRecords := by
  unfold Obligations.DurationExpiryCountsDownServedRecords
  refine ⟨fun s quiet => ?_, fun s r v live counts value last cabHigh serving => ?_⟩
  · have notAnew : (s.seconds.retireAll .expired Record.ranOut).repostPurge s.seconds.purgeRanOut =
        s.seconds.retireAll .expired Record.ranOut := by
      refine if_neg fun all => ?_
      simp only [Bool.and_eq_true, State.purgeRanOut_iff] at all
      obtain ⟨⟨⟨r, v, live, counts, value, last⟩, cabHigh⟩, serving⟩ := all
      rcases quiet with low | rests | lasts
      · exact Bool.false_ne_true (low.symm.trans (by simpa [State.seconds] using cabHigh))
      · exact Bool.false_ne_true (rests.symm.trans (by simpa [State.seconds, State.serving] using serving))
      · exact absurd last (by have := lasts r v live counts value; omega)
    exact ⟨_, s.exec_duration.trans (congrArg _ notAnew), s.seconds_retired⟩
  · have ranOut : s.seconds.purgeRanOut = true := s.purgeRanOut_iff.2 ⟨r, v, live, counts, value, last⟩
    obtain ⟨frame, timer, postSeq, records, -⟩ := s.seconds_retired
    have quiet : exec .durationTimerExpiry { s with air := { s.air with cabHigh := false } } =
        .next { s.seconds.retireAll .expired Record.ranOut with air := { s.air with cabHigh := false } } := by
      have seconds : State.seconds { s with air := { s.air with cabHigh := false } } =
        { s.seconds with air := { s.air with cabHigh := false } } := rfl
      rw [State.exec_duration, seconds, State.retireAll_withAir]
      exact congrArg Host.Outcome.next (if_neg (by simp))
    have loud : exec .durationTimerExpiry s = .next (s.seconds.retireAll .expired Record.ranOut).postPurge := by
      rw [State.exec_duration, ranOut]
      have high : (s.seconds.retireAll .expired Record.ranOut).air.cabHigh = true := by simp [State.seconds, cabHigh]
      have serves : (s.seconds.retireAll .expired Record.ranOut).serving = true := by
        simpa [State.seconds, State.serving] using serving
      exact congrArg Host.Outcome.next (if_pos (by rw [high, serves]; rfl))
    generalize s.seconds.retireAll .expired Record.ranOut = w at frame timer postSeq records quiet loud
    have free : w.record purgeSlot = none := by
      rw [records, live]
      exact (if_pos (r.counts_iff.1 counts)).trans (by rw [value]; exact if_pos last)
    have purge : w.postPurge = w.create purgeSlot (internalPurge s) := by
      have store : w.store = s.store := by rw [frame]
      rw [State.postPurge, State.internalPost, free, store]
      rfl
    rw [purge] at loud
    have c := w.create_creates purgeSlot (internalPurge s) free rfl
    generalize w.create purgeSlot (internalPurge s) = t at loud c
    have air : w.air = s.air := by rw [frame]
    refine ⟨_, t, quiet, loud, ?_, c.new.trans (by rw [postSeq]; rfl), fun m other goes => c.displaced other goes,
      fun m other stays => c.undisplaced other stays, c.list, c.others, c.postSeq.trans (by rw [postSeq]; rfl),
      c.timer.trans timer, ?_, c.entries⟩
    · rw [c.frame, ← air]
    · exact c.notices.congr_right (State.sameNotices_of rfl rfl)

end Sys2Proof.Machine
end


section
/-! SUPPORT. The statements about the scanner and the blocks its arrivals go to: a conversion as the state it samples, the
delivery of its arrival, and the end of homing. -/

namespace Sys2Proof.Machine

/-! ## A conversion -/

/-- Channel c after the conversion of a raw value (R141 to R144). -/
def State.sampled (s : State) (c : ChannelId) (raw : BitVec 12) : Channel :=
  (s.channel c).sample (filterConstant c) (if rawInRange raw then some (engineeringValue s.store.live c raw) else none)

/-- The scanner after the conversion of channel c, with the rest of the scan before it (R140, R141). -/
def State.scanned (s : State) (c : ChannelId) (rest : List ChannelId) (raw : BitVec 12) : State :=
  { s with scanner := { s.scanner with scan := rest, channels := s.scanner.channels.set c.val (s.sampled c raw) } }

section
variable {s : State} {c : ChannelId} {rest : List ChannelId}

theorem State.exec_conversion (scan : s.scanner.scan = c :: rest) (raw : BitVec 12) : exec (.conversionComplete raw) s =
    .next ((s.scanned c rest raw).deliver c (s.sampled c raw).arrival).homingCheck := by
  simp only [exec, execConversionComplete, scan]
  rfl

theorem State.channel_scanned (raw : BitVec 12) {t : State} (scanner : t.scanner = (s.scanned c rest raw).scanner)
    (x : ChannelId) : t.channel x = if x = c then s.sampled c raw else s.channel x := by
  unfold State.channel
  rw [scanner]
  simp only [State.scanned, Vector.getElem_set]
  by_cases same : c.val = x.val
  · rw [if_pos same, if_pos (Fin.ext same.symm)]
  · rw [if_neg same, if_neg (fun e => same (congrArg Fin.val e).symm)]

end

theorem rawInRange_iff (raw : BitVec 12) : rawInRange raw = true ↔ 40 ≤ raw.toNat ∧ raw.toNat ≤ 4055 := by
  simp only [rawInRange, Bool.and_eq_true, decide_eq_true_iff] <;> rfl

/-- The engineering value by the thermistor table, named by its two entries (R142). -/
theorem engineeringValue_thermistor {l : Layout} {c : ChannelId} {raw : BitVec 12} (low : c.val ≤ 10) {a b : Int}
    (lower : l.thermistor[raw.toNat / 512]? = some a) (upper : l.thermistor[raw.toNat / 512 + 1]? = some b) :
    engineeringValue l c raw = a + ((b - a) * ((raw.toNat % 512 : Nat) : Int)).tdiv 512 := by
  have bound : raw.toNat < 4096 := raw.isLt
  have inside : raw.toNat / 512 + 1 < 9 := by omega
  have mod : raw.toNat - 512 * (raw.toNat / 512) = raw.toNat % 512 := by omega
  rw [Vector.getElem?_eq_getElem (by omega)] at lower
  rw [Vector.getElem?_eq_getElem inside] at upper
  rw [engineeringValue, dif_pos low, thermistorValue]
  simp only [Option.some.inj lower, Option.some.inj upper, mod]

/-- The engineering value by linear scaling (R143). -/
theorem engineeringValue_linear {l : Layout} {c : ChannelId} {raw : BitVec 12} (high : 10 < c.val) {sc : ScaleRow}
    (scale : l.scaling[c.val - 11]? = some sc) :
    engineeringValue l c raw = sc.lo + (2 * ((sc.hi - sc.lo) * (raw.toNat : Int)) + 4095) / 8190 := by
  have inside : c.val - 11 < 5 := by omega
  rw [Vector.getElem?_eq_getElem inside] at scale
  rw [engineeringValue, dif_neg (by omega), linearValue, Option.some.inj scale]
  rfl

/-- A conversion moves its channel as R141's table says (R141, R144). -/
theorem Channel.sample_eq (ch : Channel) (k x : Int) (good : Bool) :
    let moved := match ch.filtered with
      | none => x
      | some v => v + (x - v).tdiv k
    ch.sample k (if good then some x else none) = match ch.condition with
      | .absent => ch
      | .awaiting =>
        if good = true then { ch with condition := .valid, filtered := some moved, outOfRange := 0 }
        else if ch.outOfRange + 1 < 3 then { ch with outOfRange := ch.outOfRange + 1 }
        else { ch with condition := .faulted, outOfRange := 3, recovery := 0 }
      | .valid =>
        if good = true then { ch with filtered := some moved, outOfRange := 0 }
        else if ch.outOfRange + 1 < 3 then { ch with outOfRange := ch.outOfRange + 1 }
        else { ch with condition := .faulted, outOfRange := 3, recovery := 0 }
      | .faulted =>
        if good = true then
          if ch.recovery + 1 < 10 then { ch with recovery := ch.recovery + 1 }
          else { condition := .valid, filtered := some x, outOfRange := 0, recovery := 0 }
        else { ch with recovery := 0 } := by
  intro moved
  obtain ⟨condition, filtered, outOfRange, recovery⟩ := ch
  cases condition <;> cases good <;> rfl

/-- Settles O47: the scan begun, and the channel that a conversion moves. -/
theorem conversionsJudgeScaleAndFilter : Obligations.ConversionsJudgeScaleAndFilter := by
  unfold Obligations.ConversionsJudgeScaleAndFilter
  intro s
  refine ⟨rfl, fun raw none => ?_, fun raw c rest scan => ⟨_, State.exec_conversion scan raw, ?_, ?_, ?_⟩⟩
  · simp only [exec, execConversionComplete, none]
  · simp [State.scanned]
  · intro x other
    exact (State.channel_scanned (s := s) (rest := rest) raw (by simp) x).trans (if_neg other)
  · intro ch r good k moved x thermistor linear
    have value : engineeringValue s.store.live c raw = x := by
      by_cases low : c.val ≤ 10
      · obtain ⟨a, b, lower, upper, e⟩ := thermistor low
        rw [engineeringValue_thermistor low lower upper, e]
      · obtain ⟨sc, scale, e⟩ := linear (by omega)
        rw [engineeringValue_linear (by omega) scale, e]
    refine (State.channel_scanned (s := s) (rest := rest) raw (by simp) c).trans ((if_pos rfl).trans ?_)
    rw [State.sampled, value, ch.sample_eq]
    have inRange : (rawInRange raw = true) = good := propext (rawInRange_iff raw)
    simp only [inRange] <;> rfl

/-! ## The arrivals at the climate computer and the clutch control -/

/-- Where no homing waits to complete, none does after an operation that leaves the modes, the layout and the drive. -/
theorem State.homingOpen.check {s t : State} (waits : s.homingOpen) (modes : t.modes = s.modes) (store : t.store = s.store)
    (drive : t.drive = s.drive) : t.homingCheck = t := by
  have settled : t.allSettled = s.allSettled := by
    simp only [State.allSettled, State.everyActuator, State.actPresent, store, drive]
  refine if_neg fun ⟨homing, all⟩ => waits ⟨?_, ?_⟩
  · rwa [modes] at homing
  · rwa [settled] at all

/-- The value of a healthy channel (R86, R139). -/
def Channel.healthy (ch : Channel) : Option Int := if ch.condition = .valid then ch.filtered else none

theorem State.healthy_eq (s : State) (c : ChannelId) : s.healthy c = (s.channel c).healthy := rfl

/-- What an arrival carries, by the channel that delivers it (R145): a healthy value, a fault, or nothing. -/
theorem Channel.arrival_cases (ch : Channel) :
    (ch.condition = .faulted ∧ ch.healthy = none ∧ ch.arrival = ⟨ch.filtered, true⟩) ∨
    (ch.condition ≠ .faulted ∧ ch.arrival = ⟨ch.healthy, false⟩) := by
  unfold Channel.arrival Channel.healthy
  cases ch.condition <;> simp

theorem Lockouts.onCold_eq (l : Lockouts) (ch : Channel) : l.onCold ch.arrival = match ch.healthy with
    | some v => { l with sensor := false, freeze := if v < 10 then true else if 40 ≤ v then false else l.freeze }
    | none => { l with sensor := true } := by
  rcases ch.arrival_cases with ⟨faulted, none, e⟩ | ⟨sound, e⟩ <;> rw [e]
  · rw [none]; rfl
  · cases ch.healthy <;> rfl

theorem Lockouts.onOutside_eq (l : Lockouts) (ch : Channel) : l.onOutside ch.arrival = match ch.healthy with
    | some v => { l with ambient := if v < 20 then true else if 40 ≤ v then false else l.ambient }
    | none => if ch.condition = .faulted then { l with ambient := false } else l := by
  rcases ch.arrival_cases with ⟨faulted, none, e⟩ | ⟨sound, e⟩ <;> rw [e]
  · rw [none, if_pos faulted]; rfl
  · rw [if_neg sound]
    cases ch.healthy <;> rfl

/-- The voltage level by a voltage (R66): the entry level where that is greater, else the greatest level not above the one in
force whose leaving threshold the voltage is below. -/
theorem voltageLevel_spec (now : Nat) (v : Int) :
    let entry := if v < 110 then 3 else if v < 115 then 2 else if v < 120 then 1 else 0
    let level := voltageLevel now v
    (now < entry → level = entry) ∧
    (entry ≤ now → level ≤ now ∧ (level = 0 ∨ (level ≤ 3 ∧ v < 127 - 5 * (level : Int))) ∧
      ∀ n : Nat, 1 ≤ n → n ≤ 3 → n ≤ now → v < 127 - 5 * (n : Int) → n ≤ level) := by
  intro entry level
  refine ⟨fun rises => if_pos rises, fun holds => ?_⟩
  have level_eq : level = heldLevel now v := if_neg (Nat.not_lt.2 holds)
  rw [level_eq]
  unfold heldLevel
  split
  · refine ⟨by omega, .inr ⟨by omega, by push_cast; omega⟩, fun n _ _ _ _ => by omega⟩
  · split
    · refine ⟨by omega, .inr ⟨by omega, by push_cast; omega⟩, fun n _ _ _ _ => by omega⟩
    · split
      · refine ⟨by omega, .inr ⟨by omega, by push_cast; omega⟩, fun n _ _ _ _ => by omega⟩
      · refine ⟨by omega, .inl rfl, fun n _ _ _ _ => by omega⟩

/-- Settles O48: the delivery by its channel, with no homing to complete. -/
theorem arrivalsActOnTheirBlocks : Obligations.ArrivalsActOnTheirBlocks := by
  unfold Obligations.ArrivalsActOnTheirBlocks
  intro s raw c rest scan waits others
  have run := State.exec_conversion scan raw
  have drive : ((s.scanned c rest raw).deliver c (s.sampled c raw).arrival).drive = s.drive := by
    unfold State.deliver
    split
    · rfl
    · rfl
    · omega
    · omega
    · omega
    · rfl
    · rfl
  rw [State.homingOpen.check waits (by simp [State.scanned]) (by simp [State.scanned]) drive] at run
  have scanner : ((s.scanned c rest raw).deliver c (s.sampled c raw).arrival).scanner = (s.scanned c rest raw).scanner := by
    simp
  have channel : ((s.scanned c rest raw).deliver c (s.sampled c raw).arrival).channel c = s.sampled c raw :=
    (State.channel_scanned raw scanner c).trans (if_pos rfl)
  obtain ⟨t, is⟩ : ∃ t, t = (s.scanned c rest raw).deliver c (s.sampled c raw).arrival := ⟨_, rfl⟩
  rw [← is] at run scanner channel
  refine ⟨t, run, ?_⟩
  intro faulted l held
  refine ⟨fun e => ?_, fun e => ?_, fun e => ?_, fun e8 e10 e15 => ?_⟩
  · subst e
    rw [State.healthy_eq, channel, scanner, is]
    exact congrArg (fun x => { s.scanned 8 rest raw with coolant := s.coolant.judge x }) (l.onCold_eq (s.sampled 8 raw))
  · subst e
    have judged := (congrArg (fun ch : Channel => l.onOutside ch.arrival) channel.symm).trans (l.onOutside_eq (t.channel 10))
    rw [scanner]
    exact is.trans (congrArg (fun x => { s.scanned 10 rest raw with coolant := s.coolant.judge x }) judged)
  · subst e
    refine ⟨by rw [scanner, is]; rfl, ?_⟩
    have level : t.climate.voltageLevel =
        if (t.channel 15).arrival.faulted then 0 else match (t.channel 15).arrival.value with
          | none => s.climate.voltageLevel
          | some v => voltageLevel s.climate.voltageLevel v := by
      rw [channel, is]; rfl
    rw [level, State.healthy_eq]
    rcases (t.channel 15).arrival_cases with ⟨bad, none, e⟩ | ⟨sound, e⟩ <;> rw [e]
    · rw [none]
      exact (if_pos bad).symm
    · cases (t.channel 15).healthy with
      | none => exact (if_neg sound).symm
      | some v => exact voltageLevel_spec s.climate.voltageLevel v
  · rw [scanner, is]
    unfold State.deliver
    split
    · exact absurd (Fin.ext ‹_›) e8
    · exact absurd (Fin.ext ‹_›) e10
    · omega
    · omega
    · omega
    · exact absurd (Fin.ext ‹_›) e15
    · rfl

end Sys2Proof.Machine
end


section
/-! SUPPORT. The statements about the air quality monitor: the AIR notices where there is room for all of them, what a move
of the contamination state leaves, and what the end of homing keeps of it. -/

namespace Sys2Proof.Machine

/-! ## Notices where there is room -/

/-- The frame that a notice is sent as (R172). -/
def Notice.frame (n : Notice) : TxFrame := { station := n.station, data := n.data }

/-- The notice is for a station that can be sent to and whose mask holds its category (R42, R55). -/
def State.hears (s : State) (n : Notice) : Bool :=
  decide (n.station ≠ 0) && (s.entry n.station).mask.getLsbD n.category.bit

/-- Notices for which there is room throughout stand at the tail, those that the masks hold (R55, R169). -/
theorem State.handNotices_link_of_room (s : State) (ns : List Notice) (online : s.link.state = .online)
    (room : s.link.tx.length + s.link.reserved + ns.length ≤ 17) :
    (s.handNotices ns).link = { s.link with tx := s.link.tx ++ (ns.filter s.hears).map Notice.frame } := by
  induction ns generalizing s with
  | nil => simp [State.handNotices]
  | cons n ns ih =>
    simp only [List.length_cons] at room
    have here : s.noticeRoom = true := s.noticeRoom_iff.2 ⟨online, by omega⟩
    have next : s.handNotices (n :: ns) = (s.handNotice n.station n.category n.data).handNotices ns := rfl
    have hears : (s.handNotice n.station n.category n.data).hears = s.hears := by
      funext m
      rw [State.hears, State.handNotice_mask]
      rfl
    rw [next]
    rcases s.handNotice_cases n.station n.category n.data with ⟨silent, e⟩ | ⟨named, masked, _, e⟩ | ⟨_, _, full, _⟩
    · rw [e, ih s online (by omega), List.filter_cons_of_neg]
      rcases silent with zero | unmasked
      · simp [State.hears, zero]
      · simp [State.hears, unmasked]
    · have grown : (s.handNotice n.station n.category n.data).link = { s.link with tx := s.link.tx ++ [n.frame] } := by
        rw [e]; rfl
      have heard : s.hears n = true := by simp [State.hears, named, masked]
      rw [ih _ (by rw [grown]; exact online) (by rw [grown]; simp; omega), hears, grown, List.filter_cons_of_pos heard]
      simp
    · rw [here] at full; cases full

/-- The AIR frames of a change of state (R56, R174). -/
def State.airFrames (s : State) (new old : Contamination) : List TxFrame :=
  let code : Contamination → Nat := fun c => match c with | .clear => 0 | .suspect => 1 | .contaminated => 2
  ((List.finRange 16).filter (fun st => decide (st ≠ 0) && decide ((s.entry st).presence ≠ .unseen) &&
      (s.entry st).mask.getLsbD 3)).map
    (fun st => ({ station := st, data := #v[4, 0, BitVec.ofNat 8 (code new), BitVec.ofNat 8 (code old), 0, 0, 0, 0] }
      : TxFrame))

/-- The AIR notices, where there is room for one to each station (R56). -/
theorem State.airChanges_link (s : State) (new old : Contamination) (online : s.link.state = .online)
    (room : s.link.tx.length + s.link.reserved ≤ 2) :
    (s.handNotices (s.airChanges new old)).link = { s.link with tx := s.link.tx ++ s.airFrames new old } := by
  have few : (s.airChanges new old).length ≤ 15 := by
    unfold State.airChanges
    rw [List.length_map, ← List.countP_eq_length_filter]
    calc _ ≤ (List.finRange 16).countP (fun st => decide (st ≠ 0)) := List.countP_mono_left fun st _ h => by
            simp only [decide_eq_true_eq] at h ⊢; exact h.1
      _ = 15 := by decide
  have frames : ((s.airChanges new old).filter s.hears).map Notice.frame = s.airFrames new old := by
    unfold State.airChanges State.airFrames
    rw [List.filter_map, List.filter_filter, List.map_map]
    refine congrArg (List.map _) (List.filter_congr fun st _ => ?_)
    by_cases zero : st = 0 <;> simp [zero, State.hears, Category.bit, Bool.and_comm]
  rw [s.handNotices_link_of_room _ online (by omega), frames]

/-! ## A move of the contamination state -/

theorem State.contaminationEntry_air (w : State) (new : Contamination) : (w.contaminationEntry new).air = w.air := by
  unfold State.contaminationEntry
  split
  · simp
  · rfl
  · split <;> simp

theorem State.ContaminationMoves.air {t s : State} {new : Contamination} (m : t.ContaminationMoves s new) :
    t.air = { s.air with contamination := new } := by
  obtain ⟨w, told, rfl⟩ := m
  rw [State.contaminationEntry_air, told.frame]

theorem State.ContaminationMoves.modes {t s : State} {new : Contamination} (m : t.ContaminationMoves s new) :
    t.modes = s.modes := by
  obtain ⟨w, told, rfl⟩ := m
  have modes : w.modes = s.modes := by rw [told.frame]
  rw [← modes]
  unfold State.contaminationEntry
  split
  · simp
  · rfl
  · split <;> simp

/-- A post leaves its slot live (R15). -/
theorem State.monitorPost_live (s : State) (n : Slot) (k : Kind) (v : Option Nat) :
    ((s.monitorPost n k v).record n).isSome = true := by
  unfold State.monitorPost
  split
  · rw [(s.create_creates n (internalRecord k v) ‹_› rfl).new]; rfl
  · exact Option.isSome_iff_ne_none.2 ‹_›

/-- A post leaves every other slot as live as it is (R15, R31). -/
theorem State.monitorPost_others (s : State) {n m : Slot} (other : m ≠ n) (k : Kind) (v : Option Nat) :
    ((s.monitorPost n k v).record m).isSome = (s.record m).isSome := by
  unfold State.monitorPost
  split
  · rw [(s.create_creates n (internalRecord k v) ‹_› rfl).old m other, Option.isSome_map]
  · rfl

/-- The entry into CONTAMINATED in HOMING and RUN shuts the door and leaves slot 38 live (R125). -/
theorem State.ContaminationMoves.shuts {t s : State} (m : t.ContaminationMoves s .contaminated)
    (serving : s.modes.mode = .homing ∨ s.modes.mode = .run) :
    t.intake.doorTarget = 0 ∧ (t.record sealSlot).isSome = true := by
  obtain ⟨w, told, rfl⟩ := m
  have modes : w.modes = s.modes := by rw [told.frame]
  have entry : w.contaminationEntry .contaminated = ({ w with
      intake := { w.intake with doorTarget := 0 }, drive := w.drive.handTarget 0 0 } : State).monitorPost 38 .seal none :=
    if_pos (by rw [modes]; exact serving)
  rw [entry]
  exact ⟨by simp, State.monitorPost_live _ 38 _ _⟩

/-- The entry into CLEAR leaves slot 38 free (R125). -/
theorem State.ContaminationMoves.clears {t s : State} (m : t.ContaminationMoves s .clear) : t.record sealSlot = none := by
  obtain ⟨w, told, rfl⟩ := m
  exact (State.record_retire w sealSlot sealSlot).trans (if_pos rfl)

/-! ## What the end of homing keeps -/

section
variable (s : State)

/-- The records of the monitor at the end of homing: PARKED has none, and RUN those that stood, or are posted (R22, R125,
R127). -/
theorem State.homingCheck_record {n : Slot} (live : (s.record n).isSome = true)
    (mode : s.homingCheck.modes.mode ≠ .parked) : (s.homingCheck.record n).isSome = true := by
  have posted : ∀ (w : State) (m : Slot) (k : Kind) (v : Option Nat), (w.record n).isSome = true →
      ((w.monitorPost m k v).record n).isSome = true := fun w m k v h => by
    by_cases same : n = m
    · rw [same]; exact w.monitorPost_live m k v
    · rw [w.monitorPost_others same]; exact h
  rcases s.homingCheck_cases with e | ⟨_, e⟩ | ⟨_, e⟩ <;> rw [e] at mode ⊢
  · exact live
  · rw [State.enterRun, State.monitorPosts_eq]
    unfold State.withInternalPosts
    have sealed : ((if (s.setMode .run).air.contamination = .contaminated
        then (s.setMode .run).monitorPost 38 .seal none else s.setMode .run).record n).isSome = true := by
      split
      · exact posted _ _ _ _ live
      · exact live
    simp only
    split
    · exact posted _ _ _ _ sealed
    · exact sealed
  · simp at mode

/-- Slot 38 stays free at the end of homing, out of CONTAMINATED (R125). -/
theorem State.homingCheck_noSeal (free : s.record sealSlot = none) (clean : s.air.contamination ≠ .contaminated) :
    s.homingCheck.record sealSlot = none := by
  rcases s.homingCheck_cases with e | ⟨_, e⟩ | ⟨_, e⟩ <;> rw [e]
  · exact free
  · rw [State.enterRun, State.monitorPosts_eq]
    unfold State.withInternalPosts
    rw [if_neg (show ¬ (s.setMode .run).air.contamination = .contaminated from clean)]
    simp only
    split
    · have others := (s.setMode .run).monitorPost_others (n := 39) (m := sealSlot) (by decide) .purge
        (some (60 * (s.setMode .run).store.live.purgeMinutes))
      rw [show (s.setMode .run).record sealSlot = none from free] at others
      exact Option.isNone_iff_eq_none.1 (by simpa using others)
    · exact free
  · exact s.enterParked_enters.records sealSlot

/-- A shut door stays shut at the end of homing (R128). -/
theorem State.homingCheck_shut (shut : s.intake.doorTarget = 0) : s.homingCheck.intake.doorTarget = 0 := by
  rcases s.homingCheck_cases with e | ⟨_, e⟩ | ⟨_, e⟩ <;> rw [e]
  · exact shut
  · simpa [State.setMode] using shut
  · simp [IntakeController.park]

/-- Homing completes in HOMING alone (R184). -/
theorem State.homingCheck_of_mode {s : State} (mode : s.modes.mode ≠ .homing) : s.homingCheck = s :=
  if_neg fun h => mode h.1

end

/-! ## The monitor's timers -/

/-- A post changes the table, the entries and the link alone (R15). -/
theorem State.monitorPost_eq (s : State) (n : Slot) (k : Kind) (v : Option Nat) :
    s.monitorPost n k v = { s with
      table := (s.monitorPost n k v).table
      register := { s.register with entries := (s.monitorPost n k v).register.entries }
      link := (s.monitorPost n k v).link } := by
  unfold State.monitorPost
  split
  · exact (s.create_creates n (internalRecord k v) ‹_› rfl).frame
  · rfl

theorem State.monitorPost_grew (s : State) (n : Slot) (k : Kind) (v : Option Nat) :
    s.link.Grew (s.monitorPost n k v).link := by
  rw [← State.internalPost_eq]
  exact s.internalPost_grew n k v

/-- The monitor told of, the link holds the AIR frames, where there is room for them (R56, R169). -/
theorem State.AirReported.link_of_room {t s : State} {new : Contamination} (told : t.AirReported s new)
    (online : s.link.state = .online) (room : s.link.tx.length + s.link.reserved ≤ 2) :
    t.link = { s.link with tx := s.link.tx ++ s.airFrames new s.air.contamination } :=
  told.notices.link.trans (s.airChanges_link new s.air.contamination online room)

/-- The dwell expiry in SUSPECT, in RUN (R122, R125). -/
theorem State.ContaminationMoves.sealed_run {t s : State} (m : t.ContaminationMoves s .contaminated)
    (run : s.modes.mode = .run) :
    t = { s with
      table := t.table, register := { s.register with entries := t.register.entries }, air := t.air,
      intake := { s.intake with doorTarget := 0 }, drive := s.drive.handTarget intakeDoor 0, link := t.link } ∧
    (s.link.state = .online → s.link.tx.length + s.link.reserved ≤ 2 →
      (s.link.tx ++ s.airFrames .contaminated s.air.contamination) <+: t.link.tx) ∧
    match s.record sealSlot with
    | some r => t.table = s.table ∧ t.record sealSlot = some r
    | none => (∃ r, t.record sealSlot = some r ∧ r.station = 0 ∧ r.kind = .seal ∧ r.target = intakeTarget ∧
        r.state = .pending ∧ r.postSeq = s.table.postSeq) ∧
      t.list intakeTarget = insertAfterLast (s.classAtMost 1) sealSlot (s.list intakeTarget) := by
  obtain ⟨w, told, entry⟩ := m
  have frame := told.frame
  obtain ⟨v, shut⟩ : ∃ v : State, v = { w with
    intake := { w.intake with doorTarget := 0 }, drive := w.drive.handTarget 0 0 } := ⟨_, rfl⟩
  have posted : t = v.monitorPost 38 .seal none := by
    rw [entry, shut]
    exact if_pos (.inr (by rw [frame]; exact run))
  have table : v.table = s.table := by rw [shut, frame]
  have link : v.link = w.link := by rw [shut]
  refine ⟨?_, fun online room => ?_, ?_⟩
  · have post := v.monitorPost_eq 38 .seal none
    rw [← posted] at post
    have air : t.air = v.air := by rw [post]
    rw [air]
    refine post.trans ?_
    rw [shut, frame]
    rfl
  · have grew := v.monitorPost_grew 38 .seal none
    rw [← posted, link, told.link_of_room online room] at grew
    obtain ⟨fs, tx, -⟩ := grew.tx
    exact ⟨fs, tx.symm⟩
  · have record : v.record sealSlot = s.record sealSlot := State.record_congr (by rw [table]) _
    cases live : s.record sealSlot with
    | some r =>
      have same : t = v := posted.trans (if_neg fun free => Option.some_ne_none r (live.symm.trans (record.symm.trans free)))
      exact ⟨by rw [same, table], by rw [same, record, live]⟩
    | none =>
      have c := v.create_creates 38 (internalRecord .seal none) (record.trans live) rfl
      have created : t = v.create 38 (internalRecord .seal none) := posted.trans (if_pos (record.trans live))
      rw [← created] at c
      refine ⟨⟨_, c.new, rfl, rfl, rfl, rfl, by rw [table]⟩, ?_⟩
      have classes : v.classAtMost = s.classAtMost := State.classAtMost_congr (by rw [table])
      have lists : v.list intakeTarget = s.list intakeTarget := State.list_congr (by rw [table]) _
      have list := c.list
      rwa [show (internalRecord .seal none).target = intakeTarget from rfl, classes, lists] at list

/-- The entry into CLEAR (R123, R125). -/
theorem State.ContaminationMoves.cleared {t s : State} (m : t.ContaminationMoves s .clear) :
    t = { s with
      table := { s.table with slots := t.table.slots, lists := t.table.lists }
      register := { s.register with entries := t.register.entries }
      air := { s.air with contamination := .clear }, link := t.link } ∧
    (∀ n, n ≠ sealSlot → t.record n = s.record n) ∧
    (s.link.state = .online → s.link.tx.length + s.link.reserved ≤ 2 →
      t.link = { s.link with tx := s.link.tx ++ s.airFrames .clear s.air.contamination }) := by
  obtain ⟨w, told, entry⟩ := m
  have retired : t = w.retire sealSlot := entry
  have link : t.link = w.link := by rw [retired]; simp
  refine ⟨?_, fun n other => ?_, fun online room => link.trans (told.link_of_room online room)⟩
  · have frame := w.retire_eq sealSlot
    rw [← retired] at frame
    have rest := told.frame
    rw [link]
    refine frame.trans ?_
    rw [rest]
  · rw [retired, State.record_retire, if_neg other]
    exact State.record_congr (by rw [told.frame]) n

/-- Settles O44: the two moves of the contamination state, and the end of CAB_HIGH. -/
theorem monitorTimersMoveTheState : Obligations.MonitorTimersMoveTheState := by
  unfold Obligations.MonitorTimersMoveTheState
  intro s code notices roomy
  refine ⟨fun runs suspect => ?_, fun runs contaminated => ?_, fun runs => ?_, fun stopped waits => ?_, fun stopped => ?_,
    fun stopped => ?_⟩
  · obtain ⟨ms, timer⟩ := Option.isSome_iff_exists.1 runs
    have moves := State.setContamination_moves { s with air := { s.air with dwellTimer := none } } .contaminated
      (by rw [suspect]; exact Contamination.noConfusion)
    have run : exec .dwellTimerExpiry s = .next (State.setContamination
        { s with air := { s.air with dwellTimer := none } } .contaminated).homingCheck := by
      simp only [exec, execDwellTimerExpiry, State.dwellExpiry, timer, suspect, if_true] <;> rfl
    generalize State.setContamination { s with air := { s.air with dwellTimer := none } } .contaminated = u at moves run
    have modes : u.modes = s.modes := moves.modes
    refine ⟨_, run, (by simp : u.homingCheck.air = u.air).trans moves.air, fun rests => ?_, fun runs => ?_, fun homes => ?_,
      u, moves, rfl⟩
    · have notHoming : u.modes.mode ≠ .homing := by rw [modes]; rcases rests with e | e <;> simp [e]
      rw [State.homingCheck_of_mode notHoming]
      obtain ⟨w, told, entry⟩ := moves
      have still : u = w := by
        rw [entry]
        exact if_neg (by rw [told.frame]; rcases rests with e | e <;> simp [e])
      rw [still]
      refine ⟨told.frame.trans (by rw [told.frame]), fun ⟨online, room⟩ => ?_⟩
      have link := told.link_of_room online room
      rw [suspect] at link
      exact link
    · have notHoming : u.modes.mode ≠ .homing := by rw [modes, runs]; exact Mode.noConfusion
      rw [State.homingCheck_of_mode notHoming]
      obtain ⟨frame, prefix_, posted⟩ := moves.sealed_run runs
      refine ⟨?_, ?_, fun ⟨online, room⟩ => ?_, posted⟩
      · have drive : u.drive = s.drive.handTarget intakeDoor 0 := by rw [frame]
        rw [drive]
        exact frame
      · rw [frame]
      · have := prefix_ online room
        rw [suspect] at this
        exact this
    · obtain ⟨shut, live⟩ := moves.shuts (.inl homes)
      exact ⟨u.homingCheck_shut shut, u.homingCheck_record live⟩
  · obtain ⟨ms, timer⟩ := Option.isSome_iff_exists.1 runs
    have moves := State.setContamination_moves { s with air := { s.air with clearHoldTimer := none } } .clear
      (by rw [contaminated]; exact Contamination.noConfusion)
    have run : exec .clearHoldExpiry s = .next (State.setContamination
        { s with air := { s.air with clearHoldTimer := none } } .clear) := by
      simp only [exec, execClearHoldExpiry, State.clearHoldExpiry, timer, contaminated, if_true] <;> rfl
    generalize State.setContamination { s with air := { s.air with clearHoldTimer := none } } .clear = u at moves run
    obtain ⟨frame, others, link⟩ := moves.cleared
    refine ⟨u, run, frame.trans (by rw [frame]), moves.clears, others, fun ⟨online, room⟩ => ?_, moves⟩
    have := link online room
    rw [contaminated] at this
    exact this
  · obtain ⟨ms, timer⟩ := Option.isSome_iff_exists.1 runs
    obtain ⟨v, is⟩ : ∃ v : State, v = { s with air := { s.air with cabHigh := false, cabClearTimer := none } } := ⟨_, rfl⟩
    have run : exec .cabClearHoldExpiry s = .next (v.retire purgeSlot) := by
      simp only [exec, execCabClearHoldExpiry, State.cabClearExpiry, timer, is] <;> rfl
    have record : ∀ n, v.record n = s.record n := State.record_congr (by rw [is])
    have entry : ∀ st, v.entry st = s.entry st := State.entry_congr (by rw [is])
    have list : ∀ u, v.list u = s.list u := State.list_congr (by rw [is])
    refine ⟨_, run, (v.retire_eq purgeSlot).trans (by rw [is]), ?_, fun n other => ?_, fun r live => ⟨?_, ?_⟩⟩
    · rw [State.record_retire, if_pos rfl]
    · rw [State.record_retire, if_neg other, record]
    · rw [v.entry_retire purgeSlot r ((record _).trans live), if_pos rfl, entry]
    · rw [v.list_retire purgeSlot r ((record _).trans live), if_pos rfl, list]
  · have still : s.dwellExpiry = s := by unfold State.dwellExpiry; rw [stopped]
    exact congrArg Host.Outcome.next ((congrArg State.homingCheck still).trans (if_neg waits))
  · simp only [exec, execClearHoldExpiry, State.clearHoldExpiry, stopped]
  · simp only [exec, execCabClearHoldExpiry, State.cabClearExpiry, stopped]

end Sys2Proof.Machine
end


section
/-! SUPPORT. The statement about the gas channels' arrivals: the judged reading, what the monitor makes of it, and CAB_HIGH. -/

namespace Sys2Proof.Machine

/-! ## Judged readings -/

/-- What a gas channel gives the monitor: its healthy value, or the suspect threshold while it is faulted (R119). -/
def Channel.reading (ch : Channel) (threshold : Nat) : Option Int :=
  if ch.condition = .faulted then some (threshold : Int) else ch.healthy

theorem judgedReading_eq (ch : Channel) (old : Option Int) (threshold : Nat) : judgedReading old ch.arrival threshold =
    if (ch.reading threshold).isSome = true then ch.reading threshold else old := by
  unfold Channel.reading
  rcases ch.arrival_cases with ⟨faulted, none, e⟩ | ⟨sound, e⟩ <;> rw [e]
  · rw [if_pos faulted]; rfl
  · rw [if_neg sound]
    cases ch.healthy <;> rfl

/-- An arrival that is neither valid nor faulted gives no reading (R145). -/
theorem Channel.reading_none_iff (ch : Channel) (threshold : Nat) :
    (ch.arrival.faulted = false ∧ ch.arrival.value = none) ↔ (ch.reading threshold).isSome = false := by
  unfold Channel.reading
  rcases ch.arrival_cases with ⟨faulted, none, e⟩ | ⟨sound, e⟩ <;> rw [e]
  · simp [faulted]
  · simp [sound]

theorem readingAt_iff (r : Option Int) (n : Nat) : readingAt r n = true ↔ ∃ v, r = some v ∧ (n : Int) ≤ v := by
  cases r <;> simp [readingAt]

theorem AirMonitor.alarm_iff (m : AirMonitor) (l : Layout) : m.alarm l = true ↔
    (∃ v, m.judgedCo = some v ∧ (l.coAlarm : Int) ≤ v) ∨ ∃ v, m.judgedParticle = some v ∧ (l.particulateAlarm : Int) ≤ v := by
  rw [AirMonitor.alarm, Bool.or_eq_true, readingAt_iff, readingAt_iff]

theorem AirMonitor.suspect_iff (m : AirMonitor) (l : Layout) : m.suspect l = true ↔
    (∃ v, m.judgedCo = some v ∧ (l.coSuspect : Int) ≤ v) ∨
    ∃ v, m.judgedParticle = some v ∧ (l.particulateSuspect : Int) ≤ v := by
  rw [AirMonitor.suspect, Bool.or_eq_true, readingAt_iff, readingAt_iff]

/-! ## What the monitor makes of a reading -/

section
variable (s : State) {A S : Prop} [Decidable A] [Decidable S] (alarm : s.air.alarm s.store.live = true ↔ A)
  (suspect : s.air.suspect s.store.live = true ↔ S)
include alarm suspect

/-- Evaluation starts, on the readings as they stand (R120). -/
theorem State.startEvaluation_air : s.startEvaluation.air = { s.air with
    evaluating := true
    contamination := if A then .contaminated else if S then s.air.contamination else .clear
    dwellTimer := if ¬ A ∧ S then some (1000 * s.store.live.suspectDwell) else s.air.dwellTimer } := by
  unfold State.startEvaluation
  simp only [alarm, suspect]
  by_cases a : A
  · rw [if_pos a, State.setContamination_air]
    simp [a, State.setAir]
  · by_cases b : S
    · simp [a, b, State.setAir, Machine.seconds]
    · rw [if_neg a, if_neg b, State.setContamination_air]
      simp [a, b, State.setAir]

/-- The monitor on its readings, by its state (R121). -/
theorem State.judgeAir_air : s.judgeAir.air = match s.air.contamination with
    | .clear =>
      if A then { s.air with contamination := .contaminated }
      else if S then
        { s.air with contamination := .suspect, dwellTimer := some (1000 * s.store.live.suspectDwell) }
      else s.air
    | .suspect =>
      if A then { s.air with contamination := .contaminated, dwellTimer := none }
      else if S then s.air
      else { s.air with contamination := .clear, dwellTimer := none }
    | .contaminated =>
      if A ∨ S then { s.air with clearHoldTimer := none }
      else if s.air.clearHoldTimer.isSome = true then s.air
      else { s.air with clearHoldTimer := some (1000 * s.store.live.clearHold) } := by
  unfold State.judgeAir
  simp only [alarm, suspect]
  cases state : s.air.contamination with
  | clear =>
    by_cases a : A
    · simp only [a, if_true, State.setContamination_air]
    · by_cases b : S
      · simp only [a, b, if_true, if_false, State.setContamination_air, State.setAir, Machine.seconds]
      · simp only [a, b, if_false]
  | suspect =>
    by_cases a : A
    · simp only [a, if_true, State.setContamination_air, State.setAir]
    · by_cases b : S
      · simp only [a, b, if_true, if_false]
      · simp only [a, b, if_false, State.setContamination_air, State.setAir]
  | contaminated =>
    by_cases a : A
    · simp only [a, if_true, true_or, State.setAir]
    · by_cases b : S
      · simp only [a, b, if_true, if_false, or_true, State.setAir]
      · by_cases hold : s.air.clearHoldTimer.isSome = true
        · simp only [a, b, hold, if_true, if_false, or_false]
        · simp only [a, b, hold, if_false, or_false, State.setAir, Machine.seconds] <;> rfl

end

/-! ## An arrival of an intake gas channel -/

/-- The monitor with the reading of channel 11 or 12 taken in (R119). -/
def State.withReading (s : State) (c : ChannelId) (ch : Channel) : AirMonitor :=
  { s.air with
    judgedCo := if c = 11 ∧ (ch.reading s.store.live.coSuspect).isSome = true then ch.reading s.store.live.coSuspect
      else s.air.judgedCo
    judgedParticle := if c = 12 ∧ (ch.reading s.store.live.particulateSuspect).isSome = true
      then ch.reading s.store.live.particulateSuspect else s.air.judgedParticle }

/-- An arrival of channel 11 or 12 is a judgement of the monitor on its readings (R119 to R121, R145). -/
theorem State.deliver_intakeGas (s : State) {c : ChannelId} (gas : c = 11 ∨ c = 12) (ch : Channel) :
    (s.deliver c ch.arrival).Judged s ∧
    ((ch.reading 0).isSome = false → s.deliver c ch.arrival = s) ∧
    ((ch.reading 0).isSome = true → s.deliver c ch.arrival = (s.setAir (s.withReading c ch)).afterReading) := by
  have some : ∀ n m : Nat, (ch.reading n).isSome = (ch.reading m).isSome := fun n m => by
    unfold Channel.reading; split <;> rfl
  rcases gas with rfl | rfl
  · refine ⟨s.onIntakeCo_judged _, fun none => if_pos ((ch.reading_none_iff 0).2 none), fun given => ?_⟩
    have taken : s.withReading 11 ch = { s.air with
        judgedCo := judgedReading s.air.judgedCo ch.arrival s.store.live.coSuspect } := by
      rw [judgedReading_eq]
      simp [State.withReading]
    rw [taken]
    exact if_neg fun none => Bool.false_ne_true (((ch.reading_none_iff 0).1 none).symm.trans given)
  · refine ⟨s.onIntakeParticulate_judged _, fun none => if_pos ((ch.reading_none_iff 0).2 none), fun given => ?_⟩
    have taken : s.withReading 12 ch = { s.air with
        judgedParticle := judgedReading s.air.judgedParticle ch.arrival s.store.live.particulateSuspect } := by
      rw [judgedReading_eq]
      simp [State.withReading]
    rw [taken]
    exact if_neg fun none => Bool.false_ne_true (((ch.reading_none_iff 0).1 none).symm.trans given)

/-! ## An arrival of the cab's gas channel -/

theorem State.onCabCo_air (s : State) (ch : Channel) : (s.onCabCo ch.arrival).air =
    if ch.condition = .faulted then { s.air with cabHigh := false, cabClearTimer := none }
    else match ch.healthy with
      | none => s.air
      | some v =>
        if s.air.cabHigh = false then { s.air with cabHigh := decide ((s.store.live.cabHigh : Int) ≤ v) }
        else if v < (s.store.live.cabClear : Int) then
          if s.air.cabClearTimer.isSome = true then s.air
          else { s.air with cabClearTimer := some (1000 * s.store.live.cabClearHold) }
        else { s.air with cabClearTimer := none } := by
  unfold State.onCabCo
  rcases ch.arrival_cases with ⟨faulted, none, e⟩ | ⟨sound, e⟩ <;> rw [e]
  · rw [if_pos faulted]; rfl
  · rw [if_neg sound]
    cases ch.healthy with
    | none => rfl
    | some v =>
      simp only [Bool.false_eq_true, if_false]
      by_cases low : s.air.cabHigh = false
      · rw [if_pos low, if_pos low]
        by_cases high : (s.store.live.cabHigh : Int) ≤ v
        · rw [if_pos high, s.raiseCabHigh_eq.1]
          simp [high]
        · rw [if_neg high]
          have kept : s.air = { s.air with cabHigh := false } := by rw [← low]
          simp only [high, decide_false]
          exact kept
      · rw [if_neg low, if_neg low]
        by_cases clear : v < (s.store.live.cabClear : Int)
        · rw [if_pos clear, if_pos clear]
          by_cases runs : s.air.cabClearTimer.isSome = true
          · rw [if_pos runs, if_pos runs]
          · rw [if_neg runs, if_neg runs]; rfl
        · rw [if_neg clear, if_neg clear]; rfl

/-- Settles O49: the judged reading, the move of the monitor and what it leaves, and CAB_HIGH. -/
theorem gasArrivalsMoveTheMonitor : Obligations.GasArrivalsMoveTheMonitor := by
  unfold Obligations.GasArrivalsMoveTheMonitor
  intro s raw c rest scan gas
  have run := State.exec_conversion scan raw
  obtain ⟨v, is_v⟩ : ∃ v, v = s.scanned c rest raw := ⟨_, rfl⟩
  obtain ⟨ch, is_ch⟩ : ∃ ch, ch = s.sampled c raw := ⟨_, rfl⟩
  obtain ⟨u, is_u⟩ : ∃ u, u = v.deliver c ch.arrival := ⟨_, rfl⟩
  obtain ⟨t, is_t⟩ : ∃ t, t = u.homingCheck := ⟨_, rfl⟩
  rw [← is_v, ← is_ch, ← is_u, ← is_t] at run
  have air_v : v.air = s.air := by rw [is_v]; rfl
  have store_v : v.store = s.store := by rw [is_v]; rfl
  have modes_v : v.modes = s.modes := by rw [is_v]; rfl
  have scanner : t.scanner = v.scanner := by rw [is_t, is_u]; simp
  have channel : t.channel c = ch := by
    rw [is_ch]
    exact (State.channel_scanned raw (by rw [scanner, is_v]) c).trans (if_pos rfl)
  have air : t.air = u.air := by rw [is_t]; simp
  have store : u.store = s.store := by rw [is_u, ← store_v]; simp
  have with_air : ∀ x : AirMonitor, ({ v with air := x } : State) = { s with scanner := v.scanner, air := x } := fun x => by
    rw [is_v]; rfl
  refine ⟨t, run, ?_⟩
  intro l m faulted reading at_ co pm alarm suspect read
  have reading_eq : reading = ch.reading := by
    funext n
    rw [← channel]
    rfl
  have read_eq : v.withReading c ch = read := by
    simp only [State.withReading, read, co, pm, reading_eq, air_v, store_v] <;> rfl
  have judged : ∀ intake : c = 11 ∨ c = 12, u.Judged v := fun intake => by
    rw [is_u]; exact (v.deliver_intakeGas intake ch).1
  have intake : c ≠ 13 → c = 11 ∨ c = 12 := fun other => by
    rcases gas with e | e | e
    · exact .inl e
    · exact .inr e
    · exact absurd e other
  have cab : c = 13 → u = v.onCabCo ch.arrival := fun e => by rw [is_u, e]; rfl
  refine ⟨fun intake given => ?_, fun intake none => ?_, fun e bad => ?_, fun e sound => ?_,
    fun e low high serves mode => ?_, u, is_t, fun other same => ?_, fun other moves => ?_, fun e => ?_, fun e => ?_⟩
  · have after : u = (v.setAir read).afterReading := by
      rw [is_u, ← read_eq]
      exact (v.deliver_intakeGas intake ch).2.2 (by rw [← reading_eq]; exact given)
    have alarm_iff : (v.setAir read).air.alarm (v.setAir read).store.live = true ↔ alarm := by
      rw [show (v.setAir read).store = s.store from store_v]
      exact AirMonitor.alarm_iff read l
    have suspect_iff : (v.setAir read).air.suspect (v.setAir read).store.live = true ↔ suspect := by
      rw [show (v.setAir read).store = s.store from store_v]
      exact AirMonitor.suspect_iff read l
    have evaluates : (v.setAir read).air.evaluating = m.evaluating := rfl
    refine ⟨fun waits missing => ?_, fun waits coKnown pmKnown => ?_, fun evaluating => ?_, fun clean dirty serves => ?_,
      fun dirty clean => ?_⟩
    · have idle : ¬ ((v.setAir read).air.evaluating = true) := by rw [evaluates, waits]; exact Bool.false_ne_true
      have notReady : ¬ ((v.setAir read).evaluationReady = true) := by
        simp only [State.evaluationReady, State.setAir, read, Bool.and_eq_true, Option.isNone_iff_eq_none] at missing ⊢
        rcases missing with e | e <;> simp [e]
      rw [air, after]
      exact congrArg State.air ((if_neg idle).trans (if_neg notReady))
    · have idle : ¬ ((v.setAir read).air.evaluating = true) := by rw [evaluates, waits]; exact Bool.false_ne_true
      have ready : (v.setAir read).evaluationReady = true := by
        simp only [State.evaluationReady, State.setAir, read, coKnown, pmKnown, waits, m] <;> rfl
      have starts : u = (v.setAir read).startEvaluation := after.trans ((if_neg idle).trans (if_pos ready))
      rw [air, starts, State.startEvaluation_air _ alarm_iff suspect_iff,
        show (v.setAir read).store = s.store from store_v]
      rfl
    · have judges : u = (v.setAir read).judgeAir := after.trans (if_pos (by rw [evaluates, evaluating]))
      rw [air, judges, State.judgeAir_air _ alarm_iff suspect_iff, show (v.setAir read).store = s.store from store_v]
      rfl
    · have serving : s.modes.mode = .homing ∨ s.modes.mode = .run := by simpa [State.serving] using serves
      have contaminated : u.air.contamination = .contaminated := by rw [← air]; exact dirty
      have moves := (judged intake).moves (by rw [contaminated, air_v]; exact fun e => clean e.symm)
      rw [contaminated] at moves
      obtain ⟨shut, live⟩ := moves.shuts (by rw [← modes_v] at serving; exact serving)
      rw [is_t]
      exact ⟨u.homingCheck_shut shut, u.homingCheck_record live⟩
    · have clear : u.air.contamination = .clear := by rw [← air]; exact clean
      have moves := (judged intake).moves (by rw [clear, air_v]; exact fun e => dirty e.symm)
      rw [clear] at moves
      rw [is_t]
      exact u.homingCheck_noSeal moves.clears (by rw [clear]; exact Contamination.noConfusion)
  · have still : u = v := by
      rw [is_u]
      exact (v.deliver_intakeGas intake ch).2.1 (by rw [← reading_eq]; exact none)
    rw [air, still, air_v]
  · rw [air, cab e, State.onCabCo_air, if_pos (by rw [← channel]; exact bad), air_v]
  · have eq := v.onCabCo_air ch
    rw [if_neg (by rw [← channel]; exact sound), air_v, store_v, ← cab e, ← air, ← channel] at eq
    subst e
    exact eq
  · have posts := (v.onCabCo_eq ch.arrival).2
    have serving : s.modes.mode = .homing ∨ s.modes.mode = .run := by simpa [State.serving] using serves
    rw [← cab e, air_v, modes_v, if_pos ⟨low, by rw [← air]; exact high, serving⟩] at posts
    rw [is_t] at mode ⊢
    refine u.homingCheck_record ?_ mode
    rw [posts]
    exact State.monitorPost_live _ 39 _ _
  · refine ((judged (intake other)).same (by rw [← air, air_v]; exact same)).trans ?_
    rw [scanner, is_v, ← air, ← same]
    rfl
  · have moved := (judged (intake other)).moves (by rw [← air, air_v]; exact moves)
    rw [← air, air_v] at moved
    rw [scanner]
    rw [with_air] at moved
    exact moved
  · have posts := (v.onCabCo_eq ch.arrival).2
    have same : t.air.contamination = m.contamination := by rw [air, cab e, (v.onCabCo_eq ch.arrival).1, air_v]
    have kept : t.air = { t.air with contamination := m.contamination } := by rw [← same]
    rw [← cab e, with_air, air_v, modes_v, store_v, ← air, kept] at posts
    rw [scanner]
    exact posts
  · rw [air, cab e, (v.onCabCo_eq ch.arrival).1, air_v]

end Sys2Proof.Machine
end


section
/-! SUPPORT. The statement about an intake computation: the governing intake record, the door, the stepped duty, the fan. -/

namespace Sys2Proof.Machine

/-- The governing intake record, as a computation reads it (R28, R129). -/
def State.intakeGoverning (s : State) : Option Record := (s.governing intakeTarget).map (fun p => p.2)

theorem State.intakeGoverning_eq (s : State) : s.intakeGoverning =
    match s.list intakeTarget with
    | [] => none
    | n :: _ => s.record n := by
  unfold State.intakeGoverning State.governing State.first
  cases s.list intakeTarget with
  | nil => rfl
  | cons n rest => cases h : s.record n <;> simp [h]

theorem doorRequest_eq (l : Layout) (gov : Option Record) : doorRequest l gov =
    match gov with
    | none => l.defaultFresh
    | some r => if r.kind = .seal then 0 else if r.kind = .purge then 1000 else r.value.getD 0 := by
  cases gov with
  | none => rfl
  | some r => cases h : r.kind <;> simp [doorRequest, h]

theorem doorBound_eq (c : Contamination) (asked : Nat) : doorBound c asked =
    match c with
    | .clear => asked
    | .suspect => if 500 < asked then 500 else asked
    | .contaminated => 0 := by
  cases c with
  | clear => rfl
  | suspect => simp only [doorBound, Config.suspectCap]; split <;> omega
  | contaminated => rfl

/-- The state an intake computation gives the governing record (R130). -/
theorem intakeState_eq (d : ActState) (c : Contamination) (asked : Nat) : intakeState (d == .faulted) (capped c asked) =
    if d = .faulted then .blocked else if c = .suspect ∧ 500 < asked then .limited else .active := by
  simp only [intakeState, capped, Bool.and_eq_true, beq_iff_eq, decide_eq_true_eq]
  exact rfl

/-- The intake door is always present (R149): it is handed every target. -/
theorem State.handTarget_intakeDoor (s : State) (target : Nat) :
    s.handTarget intakeDoor target = { s with drive := s.drive.handTarget intakeDoor target } := if_pos rfl

/-- The duty composed in RUN (R134). -/
theorem State.composeDuty_of_run (s : State) (run : s.modes.mode = .run) : s.composeDuty =
    if s.intake.pressurizing then s.cappedDuty (if s.doorBoost then 1000 else s.intake.steppedDuty.getD 0) else 0 := by
  by_cases pressurizing : s.intake.pressurizing = true
  · have driving := And.intro run pressurizing
    have handed : s.boostHand = s.handFan := if_pos driving
    have duty := congrArg (fun t => t.fans.fanDuty) (handed.symm.trans s.boostHand_eq)
    simp only [if_pos driving] at duty
    rw [if_pos pressurizing]
    exact duty
  · rw [if_neg pressurizing]
    exact if_neg (fun driving => pressurizing driving.2)

theorem State.pressurize_boostTimer (s : State) (isSeal : Bool) : (s.pressurize isSeal).boostTimer = s.intake.boostTimer := by
  cases isSeal <;> rfl

theorem State.pressurize_pressurizing (s : State) (isSeal : Bool) : (s.pressurize isSeal).pressurizing = isSeal := by
  cases isSeal <;> rfl

/-- What an intake computation leaves: the list judged, the controller, the fan and the door (R129 to R134). -/
theorem State.computeIntake_eq (s : State) :
    let asked := doorRequest s.store.live s.intakeGoverning
    let isSeal := s.intakeGoverning.any (fun r => r.kind == .seal)
    let target := doorBound s.air.contamination asked
    let judged := s.judgeIntake (intakeState (s.actFaulted intakeDoor) (capped s.air.contamination asked))
    let pressed : State := { judged with
      intake := { s.pressurize isSeal with doorTarget := target }, drive := s.drive.handTarget intakeDoor target }
    s.computeIntake = { judged with
      intake := { s.pressurize isSeal with doorTarget := target, outputDuty := pressed.composeDuty }
      fans := { s.fans with fanDuty := pressed.composeDuty }
      drive := s.drive.handTarget intakeDoor target } := by
  intro asked isSeal target judged pressed
  have drive : judged.drive = s.drive := by simp [judged]
  have fans : judged.fans = s.fans := by simp [judged]
  have handed : (State.handTarget { judged with intake := { s.pressurize isSeal with doorTarget := target } }
      intakeDoor target) = pressed := by
    rw [State.handTarget_intakeDoor]
    simp only [pressed, drive]
  rw [← fans]
  exact congrArg State.handFan handed

/-- The table, the register and the link after an intake computation are as its judgement of the list leaves them (R33). -/
theorem State.computeIntake_judges (s : State) :
    let asked := doorRequest s.store.live s.intakeGoverning
    let judged := s.judgeIntake (intakeState (s.actFaulted intakeDoor) (capped s.air.contamination asked))
    s.computeIntake.table = judged.table ∧ s.computeIntake.register = judged.register ∧ s.computeIntake.link = judged.link := by
  intro asked judged
  rw [State.computeIntake_eq]
  exact ⟨rfl, rfl, rfl⟩

/-- The fan after an intake computation in RUN (R134): it stands unless a SEAL governs. -/
theorem State.computeIntake_duty (s : State) (run : s.modes.mode = .run) :
    let isSeal := s.intakeGoverning.any (fun r => r.kind == .seal)
    s.computeIntake.fans.fanDuty = if isSeal then
      s.cappedDuty (if s.doorBoost then 1000 else (s.pressurize isSeal).steppedDuty.getD 0) else 0 := by
  intro isSeal
  rw [State.computeIntake_eq]
  refine (State.composeDuty_of_run _ (by simpa using run)).trans ?_
  simp only [State.cappedDuty, State.doorBoost, State.judgeIntake_frame, State.pressurize_boostTimer,
    State.pressurize_pressurizing]
  exact rfl

/-- The stepped duty a computation finds (R132, R133): 800 without channel 14, 500 on entry, kept under door boost, and
otherwise stepped by 50 towards the target within 200 to 1000. -/
theorem steppedDuty_spec (before : Option Nat) (was boost : Bool) (dp : Option Int) (target : Nat) :
    let duty := steppedDuty before (!was) boost dp target
    match dp with
    | none => duty = 800
    | some p =>
      (was = false → duty = 500) ∧
      (∀ old, was = true → before = some old →
        (boost = true → duty = old) ∧
        (¬ boost = true → 200 ≤ old → old ≤ 1000 →
          duty = if p < target - 10 then min 1000 (old + 50)
                 else if target + 10 < p then max 200 (old - 50)
                 else old)) := by
  intro duty
  cases dp with
  | none => rfl
  | some p =>
    refine ⟨?_, ?_⟩
    · rintro rfl
      rfl
    · rintro old rfl rfl
      refine ⟨?_, ?_⟩
      · rintro rfl
        rfl
      · intro unboosted low high
        rw [Bool.not_eq_true] at unboosted
        subst unboosted
        simp only [duty, steppedDuty, Bool.not_true, Bool.false_eq_true, if_false, Option.getD_some, clampNat]
        (repeat' split) <;> omega

theorem State.computeIntake_fans (s : State) :
    s.computeIntake.fans = { s.fans with fanDuty := s.computeIntake.fans.fanDuty } := by
  rw [State.computeIntake_eq]

/-- A state that rewrites records of s and differs else in the intake controller, the filter fan, the drive and the link. -/
theorem State.eq_of_rewrites {t s : State} {touched : Slot → Prop} (rewrites : t.Rewrites s touched)
    (blocks : t.climate = s.climate ∧ t.coolant = s.coolant ∧ t.air = s.air ∧ t.scanner = s.scanner ∧
      t.store = s.store ∧ t.modes = s.modes ∧ t.pins = s.pins ∧ t.pending = s.pending)
    (fans : t.fans = { s.fans with fanDuty := t.fans.fanDuty }) :
    t = { s with table := { s.table with slots := t.table.slots }
                 register := { s.register with entries := t.register.entries }
                 intake := t.intake, fans := { s.fans with fanDuty := t.fans.fanDuty }, drive := t.drive
                 link := t.link } := by
  obtain ⟨climate, coolant, air, scanner, store, modes, pins, pending⟩ := blocks
  obtain ⟨_, lists, counter, timer, _, locks, supply⟩ := rewrites
  rw [← fans]
  dsimp only
  rw [← lists, ← counter, ← timer, ← locks, ← supply, ← climate, ← coolant, ← air, ← scanner, ← store, ← modes,
    ← pins, ← pending]

/-- What an intake computation leaves of the table, the register and the link (R33, R34, R130), and the frame. -/
theorem intakeComputation_judges (s : State) (nodup : (s.list intakeTarget).Nodup) :
    let started : State := { s with intake := { s.intake with intakeTimer := some 1000 } }
    let t := started.computeIntake
    let asked := doorRequest s.store.live started.intakeGoverning
    let st := intakeState (s.actFaulted intakeDoor) (capped s.air.contamination asked)
    t = { s with table := { s.table with slots := t.table.slots }
                 register := { s.register with entries := t.register.entries }
                 intake := t.intake, fans := { s.fans with fanDuty := t.fans.fanDuty }, drive := t.drive
                 link := t.link } ∧
    (∀ n rest, s.list intakeTarget = n :: rest →
      t.record n = (s.record n).map (fun r => { r with state := st }) ∧
      ∀ m ∈ rest, t.record m = (s.record m).map (fun r => { r with state := .queued })) ∧
    (∀ m, m ∉ s.list intakeTarget → t.record m = s.record m) ∧
    t.AfterNotices s ((s.list intakeTarget).flatMap (t.stateChange s)) ∧
    (∀ st, t.entry st = { s.entry st with overrun := (t.entry st).overrun }) := by
  intro started t asked st
  obtain ⟨rewrites, records, notices⟩ := started.judgeIntake_after st nodup
  obtain ⟨table, register, link⟩ : t.table = (started.judgeIntake st).table ∧
      t.register = (started.judgeIntake st).register ∧ t.link = (started.judgeIntake st).link :=
    started.computeIntake_judges
  have record : ∀ m, t.record m = (started.judgeIntake st).record m := fun m => by rw [State.record, table]; rfl
  have rewritten : t.Rewrites s (· ∈ s.list intakeTarget) := by
    refine ⟨fun m outside => (record m).trans (rewrites.records m outside), table ▸ rewrites.lists, table ▸ rewrites.counter,
      table ▸ rewrites.timer, fun x => ?_, register ▸ rewrites.locks, register ▸ rewrites.supply⟩
    rw [State.entry, register]
    exact rewrites.entries x
  refine ⟨?_, ?_, ?_, ?_, ?_⟩
  · exact State.eq_of_rewrites rewritten started.computeIntake_frame started.computeIntake_fans
  · intro n rest isList
    obtain ⟨first, behind⟩ := records n rest isList
    exact ⟨(record n).trans first, fun m isBehind => (record m).trans (behind m isBehind)⟩
  · exact rewritten.records
  · have same : t.SameNotices (started.judgeIntake st) := State.sameNotices_of link register
    have changes : t.stateChange s = (started.judgeIntake st).stateChange started :=
      funext fun m => State.stateChange_congr rfl (record m)
    rw [changes]
    exact (notices.congr_left same).congr_right (State.sameNotices_of rfl rfl)
  · exact rewritten.entries

/-- Settles O45: the door, the intake records, pressurizing and the fan, from the equations of a computation. -/
theorem intakeComputationSetsDoorAndFan : Obligations.IntakeComputationSetsDoorAndFan := by
  unfold Obligations.IntakeComputationSetsDoorAndFan
  intro s
  refine ⟨fun idle => congrArg Host.Outcome.next (if_neg idle), fun run nodup => ?_⟩
  obtain ⟨started, isStarted⟩ : ∃ started : State,
    started = { s with intake := { s.intake with intakeTimer := some 1000 } } := ⟨_, rfl⟩
  refine ⟨started.computeIntake, ?_, ?_⟩
  · rw [isStarted]
    exact congrArg Host.Outcome.next (if_pos run)
  have judges := intakeComputation_judges s nodup
  simp only [← isStarted] at judges
  obtain ⟨frame, records, others, notices, entries⟩ := judges
  have eq := started.computeIntake_eq
  have duty := started.computeIntake_duty (by rw [isStarted]; exact run)
  refine ⟨frame, ?_, ?_⟩
  · rw [eq]
    simp only [isStarted, State.pressurize]
    split <;> rfl
  intro gov asked boost cappedAt
  have boosted : boost ↔ started.doorBoost = true := by
    rw [State.doorBoost, Bool.or_eq_true, Pins.anyDoorOpen_iff, isStarted]
  have governing : started.intakeGoverning = gov := by
    rw [State.intakeGoverning_eq, isStarted]
    rfl
  have request : doorRequest s.store.live started.intakeGoverning = asked := by
    rw [governing]
    exact doorRequest_eq _ _
  have door : started.computeIntake.intake.doorTarget = doorBound s.air.contamination asked := by
    rw [eq, ← request, isStarted]
  refine ⟨?_, ?_, ?_, others, notices, entries, ?_, ?_, ?_⟩
  · exact door.trans (doorBound_eq _ _)
  · rw [door, eq, ← request, isStarted]
  · intro n rest isList
    obtain ⟨first, behind⟩ := records n rest isList
    refine ⟨?_, behind⟩
    rw [first, request, State.actFaulted, intakeState_eq]
  · rw [eq]
  · intro unsealed
    rw [governing, unsealed] at duty eq
    exact ⟨congrArg (fun t => t.intake.pressurizing) eq, congrArg (fun t => t.intake.steppedDuty) eq, duty⟩
  · intro isSeal
    rw [governing, isSeal] at duty eq
    refine ⟨congrArg (fun t => t.intake.pressurizing) eq, _, congrArg (fun t => t.intake.steppedDuty) eq, ?_, ?_⟩
    · rw [if_congr boosted rfl rfl, ← apply_ite cappedAt]
      have handed : started.computeIntake.intake.outputDuty = started.computeIntake.fans.fanDuty := by rw [eq]
      rw [handed, duty, isStarted]
      exact if_pos rfl
    · have stepped := steppedDuty_spec started.intake.steppedDuty started.intake.pressurizing started.doorBoost
        (started.healthy 14) started.store.live.dpTarget
      rw [boosted]
      rw [isStarted] at stepped ⊢
      exact stepped

end Sys2Proof.Machine
end


section
/-! SUPPORT. The statement about the ignition: the internal posts of an entry, and an entry into HOMING that stays there. -/

namespace Sys2Proof.Machine

/-! ## The internal posts of an entry into HOMING or RUN -/

/-- The internal posts change the table, the entries and the link alone (R15). -/
theorem State.withInternalPosts_eq (s : State) : s.withInternalPosts = { s with
    table := s.withInternalPosts.table
    register := { s.register with entries := s.withInternalPosts.register.entries }
    link := s.withInternalPosts.link } := by
  unfold State.withInternalPosts
  by_cases sealing : s.air.contamination = .contaminated
  · simp only [if_pos sealing]
    obtain ⟨w, is⟩ : ∃ w, w = s.monitorPost 38 .seal none := ⟨_, rfl⟩
    have posted := s.monitorPost_eq 38 .seal none
    rw [← is] at posted ⊢
    split
    · rw [w.monitorPost_eq]
      rw [posted]
    · exact posted
  · simp only [if_neg sealing]
    split
    · exact s.monitorPost_eq _ _ _
    · rfl

/-- Slot 38 is live after the posts of a contaminated cab (R125). -/
theorem State.withInternalPosts_seal (s : State) (sealing : s.air.contamination = .contaminated) :
    (s.withInternalPosts.record sealSlot).isSome = true := by
  unfold State.withInternalPosts
  simp only [if_pos sealing]
  have live := s.monitorPost_live 38 .seal none
  split
  · exact (State.monitorPost_others _ (by decide) _ _).trans live
  · exact live

/-- Slot 39 is live after the posts of a cab with CAB_HIGH (R127). -/
theorem State.withInternalPosts_purge (s : State) (high : s.air.cabHigh = true) :
    (s.withInternalPosts.record purgeSlot).isSome = true := by
  unfold State.withInternalPosts
  simp only [if_pos high]
  exact State.monitorPost_live _ 39 .purge _

/-- A monitor that calls for no record leaves the state as it is. -/
theorem State.withInternalPosts_none (s : State) (clean : s.air.contamination ≠ .contaminated) (low : s.air.cabHigh = false) :
    s.withInternalPosts = s := by
  unfold State.withInternalPosts
  simp only [if_neg clean, low, Bool.false_eq_true, if_false]

/-! ## Homing -/

theorem State.homingFinished_iff (s : State) : s.homingFinished = true ↔
    ∀ a, s.actPresent a = true → (s.drive.act a).state ≠ .unhomed ∧ (s.drive.act a).state ≠ .homing := by
  simp only [State.homingFinished, State.everyActuator, List.all_eq_true, List.mem_finRange, true_implies]
  refine forall_congr' fun a => ?_
  cases s.actPresent a <;> simp

/-- An actuator that has not been homed has not after the entry into HOMING either (R154). -/
theorem State.DriveHomes.unfinished {s : State} {e : ActuatorDrive} (homes : s.DriveHomes e) (a : ActuatorId)
    (unhomed : (s.drive.act a).state = .unhomed ∨ (s.drive.act a).state = .homing) :
    (e.act a).state = .unhomed ∨ (e.act a).state = .homing := by
  by_cases taken : a ∈ ((List.finRange 17).filter (fun a => s.needsHoming a)).take (6 - s.drive.busy)
  · rw [homes.taken a taken]
    exact .inr rfl
  · rw [homes.kept a taken]
    exact unhomed

/-- The entry into HOMING (R154, R125, R127): the drive begins homing and the monitor posts its records. -/
theorem State.enterHoming_homes (s : State) : s.DriveHomes s.enterHoming.drive ∧
    s.enterHoming = ({ s with modes := { s.modes with mode := .homing }, drive := s.enterHoming.drive }).withInternalPosts := by
  obtain ⟨only, homes⟩ := (s.setMode .homing).startHoming_eq
  have entered : s.enterHoming = ((s.setMode .homing).startHoming).withInternalPosts := State.monitorPosts_eq _
  have drive : s.enterHoming.drive = (s.setMode .homing).startHoming.drive := by
    rw [entered, State.withInternalPosts_eq]
  rw [drive, entered]
  exact ⟨⟨homes.queue, homes.taken, homes.kept⟩, congrArg State.withInternalPosts only⟩

/-- The entry into RUN posts the monitor's records (R184). -/
theorem State.enterRun_posts (s : State) :
    s.enterRun = ({ s with modes := { s.modes with mode := .run } }).withInternalPosts := State.monitorPosts_eq _

/-- A mode other than HOMING has no homing to complete (R184). -/
theorem State.homingCheck_of_not_homing (s : State) (elsewhere : s.modes.mode ≠ .homing) : s.homingCheck = s :=
  s.homingCheck_eq.1 (.inl elsewhere)

/-- An entry into HOMING with homing unfinished does not complete it at once (R184). -/
theorem State.enterHoming_check (s : State) (unfinished : ¬ s.homingFinished = true) :
    s.enterHoming.homingCheck = s.enterHoming := by
  refine s.enterHoming.homingCheck_eq.1 (.inr fun settled => unfinished (s.homingFinished_iff.2 fun a present => ?_))
  obtain ⟨homes, entered⟩ := s.enterHoming_homes
  have store : s.enterHoming.store = s.store := by rw [entered, State.withInternalPosts_eq]
  have ready := settled a (by rw [State.actPresent, store]; exact present)
  rw [← not_or]
  intro unhomed
  rcases homes.unfinished a unhomed with still | still <;> rw [still] at ready <;> simp at ready

/-! ## The ignition -/

theorem State.debounceExpiry_same (s : State) (runs : s.modes.debounce.isSome = true) (same : s.modes.ignition = s.pins.ignition) :
    s.debounceExpiry = s.debounced := by
  obtain ⟨ms, timer⟩ := Option.isSome_iff_exists.1 runs
  unfold State.debounceExpiry
  rw [timer]
  exact if_pos same

/-- Where the debounced level does not move the mode, the expiry only takes it (R183, R184). -/
theorem State.debounceExpiry_stays (s : State) (runs : s.modes.debounce.isSome = true)
    (stays : s.modes.ignition = s.pins.ignition ∨ s.modes.mode = .start ∨ (s.modes.mode = .parked ∧ s.pins.ignition = false) ∨
      (s.modes.mode = .homing ∧ ¬ s.pins.ignition = false) ∨ (s.modes.mode = .run ∧ ¬ s.pins.ignition = false)) :
    s.debounceExpiry = s.debounced := by
  by_cases same : s.modes.ignition = s.pins.ignition
  · exact s.debounceExpiry_same runs same
  · rw [s.debounceExpiry_change runs same]
    have mode : s.debounced.modes.mode = s.modes.mode := rfl
    unfold State.ignitionChange
    rw [mode]
    rcases stays with same' | start | ⟨parked, off⟩ | ⟨homing, on⟩ | ⟨run, on⟩
    · exact absurd same' same
    · rw [start]
    · rw [parked, off]
    · rw [homing, Bool.not_eq_false _ |>.mp on]
    · rw [run, Bool.not_eq_false _ |>.mp on]

/-- The ignition on in PARKED (R184): RUN where homing is finished, HOMING where it is not; then the monitor's posts. -/
theorem State.debounceExpiry_on (s : State) (runs : s.modes.debounce.isSome = true) (wasOff : s.modes.ignition = false)
    (isOn : s.pins.ignition = true) (parked : s.modes.mode = .parked) :
    let settled := ∀ a, s.actPresent a = true → (s.drive.act a).state ≠ .unhomed ∧ (s.drive.act a).state ≠ .homing
    ∃ mode drive, s.debounceExpiry.homingCheck = ({ s with
        modes := { mode := mode, ignition := true, debounce := none }, drive := drive }).withInternalPosts ∧
      (settled → mode = .run ∧ drive = s.drive) ∧ (¬ settled → mode = .homing ∧ s.DriveHomes drive) := by
  intro settled
  have changed : s.debounceExpiry = if s.homingFinished then s.debounced.enterRun else s.debounced.enterHoming := by
    rw [s.debounceExpiry_change runs (by rw [wasOff, isOn]; decide), isOn]
    exact s.debounced.ignitionChange_on parked
  have debounced : s.debounced = { s with modes := { mode := s.modes.mode, ignition := true, debounce := none } } := by
    rw [← isOn]
    rfl
  by_cases finished : s.homingFinished = true
  · refine ⟨.run, s.drive, ?_, fun _ => ⟨rfl, rfl⟩, fun open_ => absurd (s.homingFinished_iff.1 finished) open_⟩
    rw [changed, if_pos finished, State.homingCheck_of_not_homing _ (by simp [State.enterRun_modes]), State.enterRun_posts,
      debounced]
  · have unfinished : ¬ s.debounced.homingFinished = true := finished
    obtain ⟨homes, entered⟩ := s.debounced.enterHoming_homes
    refine ⟨.homing, s.debounced.enterHoming.drive, ?_, fun settles => absurd (s.homingFinished_iff.2 settles) finished,
      fun _ => ⟨rfl, ⟨homes.queue, homes.taken, homes.kept⟩⟩⟩
    rw [changed, if_neg finished, State.enterHoming_check _ unfinished]
    refine entered.trans ?_
    rw [debounced]

/-- Settles O52: the ignition's expiries branch by branch, and the check for the end of homing. -/
theorem ignitionMovesTheMode : Obligations.IgnitionMovesTheMode := by
  unfold Obligations.IgnitionMovesTheMode
  refine ⟨?_, ?_⟩
  · intro s waits off settled
    refine ⟨?_, ?_, fun runs => ⟨?_, ?_, ?_⟩⟩
    · intro b
      simp only [exec, execIgnitionInputChange]
      split <;> rfl
    · intro stopped
      have expired : s.debounceExpiry = s := by
        unfold State.debounceExpiry
        rw [stopped]
      refine congrArg Host.Outcome.next ((congrArg State.homingCheck expired).trans ?_)
      exact waits.check rfl rfl rfl
    · intro stays
      refine congrArg Host.Outcome.next ((congrArg State.homingCheck (s.debounceExpiry_stays runs stays)).trans ?_)
      exact if_neg waits
    · intro wasOn isOff mode
      have moved : s.debounceExpiry = s.debounced.enterParked := by
        rw [s.debounceExpiry_change runs (by rw [wasOn, isOff]; decide), isOff]
        exact s.debounced.ignitionChange_off mode
      have debounced : s.debounced =
          { s with modes := { mode := s.modes.mode, ignition := false, debounce := none } } := by rw [← isOff]; rfl
      have enters := s.debounced.enterParked_enters
      have rests : s.debounced.enterParked.homingCheck = s.debounced.enterParked :=
        State.homingCheck_of_not_homing _ (by rw [enters.modes]; simp)
      refine ⟨_, congrArg Host.Outcome.next ((congrArg State.homingCheck moved).trans rests), ?_⟩
      exact debounced ▸ enters
    · intro wasOff on parked
      have isOn : s.pins.ignition = true := (Bool.not_eq_false _).mp on
      obtain ⟨mode, drive, moved, finished, unfinished⟩ := s.debounceExpiry_on runs wasOff isOn parked
      obtain ⟨u, is⟩ : ∃ u : State, u = { s with
        modes := { mode := mode, ignition := true, debounce := none }, drive := drive } := ⟨_, rfl⟩
      have air : u.air = s.air := by rw [is]
      rw [← is] at moved
      refine ⟨u.withInternalPosts, congrArg Host.Outcome.next moved, ?_, ?_, ?_, ?_, ?_, ?_, ?_, ?_⟩
      · rw [u.withInternalPosts_eq, is]
      · intro settles
        obtain ⟨runs, kept⟩ := finished settles
        rw [u.withInternalPosts_eq, is, runs, kept]
        exact ⟨rfl, rfl⟩
      · intro open_
        rw [u.withInternalPosts_eq, is, (unfinished open_).1]
      · exact fun sealing => u.withInternalPosts_seal (air ▸ sealing)
      · exact fun high => u.withInternalPosts_purge (air ▸ high)
      · intro clean low
        rw [u.withInternalPosts_none (air ▸ clean) (air ▸ low), is]
        exact ⟨rfl, rfl⟩
      · intro settles
        obtain ⟨runs, kept⟩ := finished settles
        rw [is, runs, kept]
      · intro open_
        obtain ⟨homing, homes⟩ := unfinished open_
        have handed : u.withInternalPosts.drive = drive := by rw [u.withInternalPosts_eq, is]
        rw [handed, is, homing]
        exact ⟨homes, rfl⟩
  · intro s settled
    obtain ⟨stays, enters, parks⟩ := s.homingCheck_eq
    exact ⟨stays, enters, fun homing all off => parks homing all off ▸ s.enterParked_enters⟩

end Sys2Proof.Machine
end


section
/-! SUPPORT. The statements about the power-on reset: the cleared blocks, the start-up, evaluation at the reset, homing. -/

namespace Sys2Proof.Machine

/-! ## The blocks after a reset -/

/-- The device as a reset leaves it, but for what the monitor posts: `m` is the monitor and `d` the drive. -/
def State.restarted (s : State) (good : Bool) (m : AirMonitor) (d : ActuatorDrive) : State :=
  { s.clearVolatile with
    air := m, drive := d, link := { state := .online }
    store := { s.clearVolatile.store with selfCheck := if good then s.clearVolatile.store.selfCheck else .tableMemory }
    modes := { s.clearVolatile.modes with mode := if good then .homing else .start } }

/-- It stands at its reset values block by block (R24, R44, R64, R105, R118, R128, R139, R159, R161, R164, R178, R183). -/
theorem State.restarted_cleared (s : State) (good : Bool) (m : AirMonitor) (d : ActuatorDrive) {live : Layout} {code : SelfCheck}
    (load : s.store.nvAtReset.load = (live, code)) : (s.restarted good m d).Cleared s good live code := by
  have layout : live = s.store.nvAtReset.load.1 := by rw [load]
  have check : code = s.store.nvAtReset.load.2 := by rw [load]
  subst layout check
  constructor
  case modes => rfl
  case link => rfl
  case store => rfl
  case records => intro n; simp [State.restarted, State.record, State.clearVolatile]
  case lists => intro u; simp [State.restarted, State.list, State.clearVolatile]
  case sequence => rfl
  case duration => rfl
  case entries =>
    intro st
    simp [State.restarted, State.entry, State.clearVolatile, StationRegister.afterReset, StationEntry.afterReset]
  case locks => intro u; simp [State.restarted, State.lockOf, State.clearVolatile, StationRegister.afterReset]
  case supply => rfl
  case climate => rfl
  case coolant => rfl
  case intake => rfl
  case channels =>
    intro c
    simp [State.restarted, State.channel, State.clearVolatile, Scanner.afterReset, Channel.afterReset]
  case scan => exact ⟨rfl, rfl⟩
  case fans => rfl
  case pins => rfl
  case pending => rfl

/-- A start-up with a bad table memory stays in START; with a good one it enters HOMING and posts (R179, R154, R125). -/
theorem State.startUp_restarted (s : State) (good : Bool) (m : AirMonitor) :
    let u : State := { s.clearVolatile with air := m }
    ∃ d, u.startUp good = if good then (s.restarted good m d).withInternalPosts else s.restarted good m d := by
  intro u
  cases good with
  | false =>
    refine ⟨s.clearVolatile.drive, ?_⟩
    simp only [State.startUp, State.restarted, State.bringOnline, Bool.false_eq_true, if_false, u]
    exact rfl
  | true =>
    obtain ⟨-, entered⟩ := u.bringOnline.enterHoming_homes
    refine ⟨u.bringOnline.enterHoming.drive, ?_⟩
    generalize u.bringOnline.enterHoming.drive = d at entered ⊢
    simp only [State.startUp, if_true]
    exact entered

/-! ## Evaluation at the reset -/

/-- While a gas channel is enabled its reading is awaited, and nothing is evaluated at the reset (R118, R120). -/
theorem State.evaluateAtReset_waits (s : State)
    (awaits : s.clearVolatile.store.live.enabled 11 = true ∨ s.clearVolatile.store.live.enabled 12 = true) :
    s.clearVolatile.evaluateAtReset = s.clearVolatile := by
  have air : s.clearVolatile.air = AirMonitor.afterReset s.clearVolatile.store.live := rfl
  refine if_neg ?_
  unfold State.evaluationReady
  rw [air]
  generalize s.clearVolatile.store.live = l at awaits ⊢
  rcases awaits with on | on <;> simp [AirMonitor.afterReset, on]

/-- Stations that are all UNSEEN are told of no change of the contamination state (R56). -/
theorem State.airNotices_unseen (s : State) (unseen : ∀ st, (s.entry st).presence = .unseen) (new old : Contamination) :
    s.airNotices new old = s := by
  unfold State.airNotices
  induction List.finRange 16 with
  | nil => rfl
  | cons st rest ih => rw [List.foldl_cons, if_pos (unseen st), ih]

/-- A change of the contamination state in START, with no station heard and no SEAL posted, changes the monitor alone. -/
theorem State.setContamination_quiet (s : State) (unseen : ∀ st, (s.entry st).presence = .unseen)
    (free : s.record sealSlot = none) (rests : s.serving = false) (new : Contamination) :
    s.setContamination new = s.setAir { s.air with contamination := new } := by
  unfold State.setContamination
  by_cases same : s.air.contamination = new
  · rw [if_pos same, ← same]
    rfl
  · rw [if_neg same]
    have untold := (s.setAir { s.air with contamination := new }).airNotices_unseen unseen new s.air.contamination
    cases new with
    | clear =>
      refine (congrArg (State.retire · sealSlot) untold).trans ?_
      have still : (s.setAir { s.air with contamination := .clear }).record sealSlot = none := free
      simp only [State.retire, still]
    | suspect => exact untold
    | contaminated =>
      refine (congrArg State.sealIntake untold).trans (if_neg ?_)
      rw [show (s.setAir { s.air with contamination := .contaminated }).serving = false from rests]
      exact Bool.false_ne_true

/-- Evaluation at the reset changes the monitor alone (R120). -/
theorem State.evaluateAtReset_eq (s : State) :
    s.clearVolatile.evaluateAtReset = { s.clearVolatile with air := s.clearVolatile.evaluateAtReset.air } := by
  have unseen : ∀ st, (s.clearVolatile.entry st).presence = .unseen := fun st => by
    simp [State.entry, State.clearVolatile, StationRegister.afterReset, StationEntry.afterReset]
  have free : s.clearVolatile.record sealSlot = none := by simp [State.record, State.clearVolatile]
  have rests : s.clearVolatile.serving = false := rfl
  generalize s.clearVolatile = u at unseen free rests ⊢
  unfold State.evaluateAtReset State.startEvaluation
  have quiet := (u.setAir { u.air with evaluating := true }).setContamination_quiet unseen free rests
  simp only [quiet]
  (repeat' split) <;> rfl

/-- Settles O5: the store at the reset, the quotas, and the cleared blocks with no evaluation. -/
theorem powerOnResetClearsEveryBlock : Obligations.PowerOnResetClearsEveryBlock := by
  unfold Obligations.PowerOnResetClearsEveryBlock
  refine ⟨fun st => ⟨fun idle => if_neg idle, fun writing => ?_⟩, fun l => ⟨rfl, ?_, ?_⟩, ?_⟩
  · rw [show st.nvAtReset = .unmatched st.image from if_pos writing]
    exact NvStore.load_unmatched _
  · rfl
  · intro i st number
    have config : l.config st = l.stations[i.val] := by
      have exterior : ¬ st.val = 0 := by omega
      rw [Layout.config, dif_neg exterior]
      simp only [number, Nat.add_sub_cancel]
    refine ⟨config, ?_, ?_⟩
    · rw [Layout.defined, config, bne_iff_ne]
    · rw [Layout.quotaOf, if_neg (by omega), Layout.defined, config]
      by_cases undefined : l.stations[i.val].defined = 0
      · simp [undefined]
      · simp [undefined]
  · intro s good live code load awaits
    have layout : s.clearVolatile.store.live = live := congrArg Prod.fst load
    obtain ⟨d, started⟩ := s.startUp_restarted good s.clearVolatile.air
    have none : (s.restarted good s.clearVolatile.air d).withInternalPosts = s.restarted good s.clearVolatile.air d :=
      State.withInternalPosts_none _ (by simp [State.restarted, State.clearVolatile, AirMonitor.afterReset]) rfl
    rw [none, ite_self] at started
    refine ⟨_, (congrArg (fun u => Host.Outcome.next (State.startUp u good))
      (s.evaluateAtReset_waits (layout ▸ awaits))).trans (congrArg Host.Outcome.next started),
      s.restarted_cleared good _ d load, ?_⟩
    rw [← layout]
    rfl

theorem ActuatorDrive.act_afterReset (a : ActuatorId) : ActuatorDrive.afterReset.act a = Actuator.afterReset a := by
  simp [ActuatorDrive.act, ActuatorDrive.afterReset]

/-- Settles O7: the entry into HOMING with every actuator as the reset leaves it. -/
theorem homingTakesChannelsInOrder : Obligations.HomingTakesChannelsInOrder := by
  unfold Obligations.HomingTakesChannelsInOrder
  intro s t run present
  obtain ⟨u, is⟩ : ∃ u, u = s.clearVolatile.evaluateAtReset.bringOnline := ⟨_, rfl⟩
  have reset : t = u.enterHoming := by
    rw [is, ← s.reboot_good]
    exact (Host.Outcome.next.inj run).symm
  have fresh : u.drive = ActuatorDrive.afterReset := by
    rw [is, s.evaluateAtReset_eq]
    rfl
  obtain ⟨homes, entered⟩ := u.enterHoming_homes
  rw [← reset] at homes entered
  have same : t.store = u.store := by rw [entered, State.withInternalPosts_eq]
  have act : ∀ a, u.drive.act a = Actuator.afterReset a := fun a => by rw [fresh, ActuatorDrive.act_afterReset]
  have needs : (List.finRange 17).filter (fun a => u.needsHoming a) = present := by
    refine List.filter_congr fun a _ => ?_
    rw [State.needsHoming, act, fresh, State.actPresent, State.actPresent, same]
    simp [Actuator.afterReset, ActuatorDrive.afterReset]
  have queue := homes.queue
  have taken := homes.taken
  have kept := homes.kept
  have idle : u.drive.busy = 0 := by
    rw [fresh]
    decide
  have none : u.drive.queue = [] := by rw [fresh]; rfl
  simp only [needs, idle, none, act, List.nil_append, Nat.sub_zero] at queue taken kept
  refine ⟨queue, fun a first => ?_, fun a behind => ?_, fun a => ?_⟩
  · rw [taken a first]
    exact ⟨rfl, rfl, rfl⟩
  · rw [kept a behind]
    exact ⟨rfl, rfl⟩
  · by_cases first : a ∈ present.take 6
    · rw [taken a first]
      exact ⟨rfl, rfl, rfl, rfl, rfl, rfl⟩
    · rw [kept a first]
      exact ⟨rfl, rfl, rfl, rfl, rfl, rfl⟩

/-- A post of the monitor onto an empty list hands no notice (R31). -/
theorem State.monitorPost_link (s : State) (n : Slot) (k : Kind) (v : Option Nat) (empty : s.list intakeTarget = []) :
    (s.monitorPost n k v).link = s.link := by
  unfold State.monitorPost
  split
  · have notices := (s.create_creates n (internalRecord k v) ‹_› rfl).notices.link
    have undisplaced : s.displacements (internalRecord k v).target (internalRecord k v).kind.cls = [] := by
      have ungoverned : s.governing (internalRecord k v).target = none := by
        rw [State.governing, State.first, show s.list (internalRecord k v).target = [] from empty]
        exact rfl
      rw [State.displacements, ungoverned]
    rw [undisplaced] at notices
    exact notices
  · rfl

/-- The monitor after a reset with both intake gas channels disabled (R119, R120). -/
theorem State.evaluateAtReset_air (s : State) (co : s.clearVolatile.store.live.enabled 11 = false)
    (pm : s.clearVolatile.store.live.enabled 12 = false) :
    let live := s.clearVolatile.store.live
    let alarm := live.coAlarm ≤ live.coSuspect ∨ live.particulateAlarm ≤ live.particulateSuspect
    s.clearVolatile.evaluateAtReset.air = {
      contamination := if alarm then .contaminated else .suspect
      evaluating := true
      judgedCo := some live.coSuspect
      judgedParticle := some live.particulateSuspect
      dwellTimer := if alarm then none else some (1000 * live.suspectDwell)
      clearHoldTimer := none, cabHigh := false, cabClearTimer := none } := by
  intro live alarm
  have air : s.clearVolatile.air = {
      judgedCo := some (live.coSuspect : Int), judgedParticle := some (live.particulateSuspect : Int) } := by
    have reset : s.clearVolatile.air = AirMonitor.afterReset live := rfl
    rw [reset, AirMonitor.afterReset, if_neg (by rw [co]; exact Bool.false_ne_true),
      if_neg (by rw [pm]; exact Bool.false_ne_true)]
  have isLive : s.clearVolatile.store.live = live := rfl
  generalize s.clearVolatile = u at air isLive ⊢
  have ready : u.evaluationReady = true := by simp [State.evaluationReady, air]
  have alarms : u.air.alarm u.store.live = true ↔ alarm := by
    rw [AirMonitor.alarm_iff, air, isLive]
    simp [alarm]
  have suspects : u.air.suspect u.store.live = true ↔ True := by
    rw [AirMonitor.suspect_iff, air, isLive]
    simp
  rw [State.evaluateAtReset, if_pos ready, State.startEvaluation_air u alarms suspects, air, isLive]
  by_cases sounding : alarm
  · simp [sounding]
  · simp [sounding]

/-- Settles O6: the evaluation at the reset, and the post of an entry into HOMING that it calls for. -/
theorem resetWithoutGasSensorsStartsEvaluation : Obligations.ResetWithoutGasSensorsStartsEvaluation := by
  unfold Obligations.ResetWithoutGasSensorsStartsEvaluation
  intro s good live code load co pm alarm
  have layout : s.clearVolatile.store.live = live := congrArg Prod.fst load
  obtain ⟨m, is⟩ : ∃ m, m = s.clearVolatile.evaluateAtReset.air := ⟨_, rfl⟩
  have air := s.evaluateAtReset_air (by rw [layout]; exact co) (by rw [layout]; exact pm)
  obtain ⟨d, started⟩ := s.startUp_restarted good m
  rw [← is, layout] at air
  obtain ⟨w, isW⟩ : ∃ w, w = s.restarted good m d := ⟨_, rfl⟩
  have cleared : w.Cleared s good live code := isW ▸ s.restarted_cleared good m d load
  have airW : w.air = m := by rw [isW]; rfl
  rw [← isW] at started
  have reset : s.reboot good = if alarm ∧ good = true then w.monitorPost 38 .seal none else w := by
    rw [State.reboot, s.evaluateAtReset_eq, ← is, started]
    cases good with
    | false => simp
    | true =>
      have unposted : w.air.cabHigh = false := by rw [airW, air]
      have sealing : w.air.contamination = .contaminated ↔ alarm := by
        rw [airW, air]
        show (if alarm then Contamination.contaminated else .suspect) = .contaminated ↔ alarm
        by_cases sounding : alarm
        · rw [if_pos sounding]
          exact iff_of_true rfl sounding
        · rw [if_neg sounding]
          exact iff_of_false (by decide) sounding
      unfold State.withInternalPosts
      simp only [unposted, sealing, Bool.false_eq_true, if_false, if_true, and_true]
  obtain ⟨t, isT⟩ : ∃ t, t = s.reboot good := ⟨_, rfl⟩
  rw [← isT] at reset
  refine ⟨t, w, isT ▸ rfl, cleared, reset, ?_⟩
  by_cases posts : alarm ∧ good = true
  · rw [if_pos posts] at reset
    rw [reset]
    refine ⟨?_, ?_, ?_, ?_, ?_⟩
    · exact (State.monitorPost_frame w _ _ _).2.1.trans (airW.trans air)
    · exact iff_of_true (w.monitorPost_live 38 .seal none) posts
    · intro n other
      have free := w.monitorPost_others (show n ≠ 38 from other) .seal none
      rw [cleared.records] at free
      exact Option.isSome_eq_false_iff.1 free |> Option.isNone_iff_eq_none.1
    · rw [w.monitorPost_link _ _ _ (cleared.lists _), cleared.link]
    · rw [w.monitorPost_link _ _ _ (cleared.lists _), cleared.link]
  · rw [if_neg posts] at reset
    rw [reset]
    refine ⟨airW.trans air, iff_of_false ?_ posts, fun n _ => cleared.records n, ?_, ?_⟩
    · rw [cleared.records]
      exact Bool.false_ne_true
    · rw [cleared.link]
    · rw [cleared.link]

end Sys2Proof.Machine
end


section
/-! SUPPORT. The statement about sharing: places in a strict order, the shared class, and the classes of an allocation. -/

namespace Sys2Proof.Machine

/-! ## Places in a strict order -/

/-- How many elements of a list stand before x. -/
def placeOf {α : Type} (ahead : α → α → Bool) (l : List α) (x : α) : Nat := l.countP (fun y => ahead y x)

/-- A strict order on the elements of a list that sets any two of them apart. -/
structure StrictOn {α : Type} (ahead : α → α → Bool) (l : List α) : Prop where
  irrefl : ∀ x, ahead x x = false
  trans : ∀ x y z, ahead x y = true → ahead y z = true → ahead x z = true
  total : ∀ x ∈ l, ∀ y ∈ l, x ≠ y → ahead x y = true ∨ ahead y x = true

theorem countP_lt_of_mem {α : Type} {p q : α → Bool} {l : List α} (weaker : ∀ x, p x = true → q x = true) {a : α} (mem : a ∈ l)
    (now : q a = true) (before : p a = false) : l.countP p < l.countP q := by
  have inside : l.countP p = (l.filter q).countP p := by
    rw [List.countP_filter]
    refine List.countP_congr fun x _ => ?_
    rw [Bool.and_eq_true]
    exact ⟨fun h => ⟨h, weaker x h⟩, fun h => h.1⟩
  rw [inside, List.countP_eq_length_filter (p := q), List.countP_lt_length_iff]
  exact ⟨a, List.mem_filter.2 ⟨mem, now⟩, before⟩

section
variable {α : Type} {ahead : α → α → Bool} {l : List α}

theorem StrictOn.placeOf_lt (strict : StrictOn ahead l) {x y : α} (mem : x ∈ l) (before : ahead x y = true) :
    placeOf ahead l x < placeOf ahead l y :=
  countP_lt_of_mem (fun z first => strict.trans z x y first before) mem before (strict.irrefl x)

theorem StrictOn.placeOf_lt_length (strict : StrictOn ahead l) {x : α} (mem : x ∈ l) : placeOf ahead l x < l.length :=
  List.countP_lt_length_iff.2 ⟨x, mem, strict.irrefl x⟩

theorem StrictOn.ahead_of_placeOf (strict : StrictOn ahead l) {x y : α} (hx : x ∈ l) (hy : y ∈ l)
    (before : placeOf ahead l x < placeOf ahead l y) : ahead x y = true := by
  rcases eq_or_ne x y with rfl | differ
  · exact absurd before (lt_irrefl _)
  · exact (strict.total x hx y hy differ).resolve_right fun behind => lt_asymm before (strict.placeOf_lt hy behind)

/-- The places of a list without repetition are the numbers below its length. -/
theorem StrictOn.places_perm (strict : StrictOn ahead l) (nodup : l.Nodup) :
    (l.map (placeOf ahead l)).Perm (List.range l.length) := by
  have apart : (l.map (placeOf ahead l)).Nodup := by
    refine nodup.map_on fun x hx y hy same => by_contra fun differ => ?_
    rcases strict.total x hx y hy differ with before | behind
    · exact (strict.placeOf_lt hx before).ne same
    · exact (strict.placeOf_lt hy behind).ne same.symm
  have below : l.map (placeOf ahead l) ⊆ List.range l.length := fun n isPlace => by
    obtain ⟨x, mem, rfl⟩ := List.mem_map.1 isPlace
    exact List.mem_range.2 (strict.placeOf_lt_length mem)
  exact (List.subperm_of_subset apart below).perm_of_length_le (by simp)

theorem countP_range_lt (n k : Nat) (within : k ≤ n) : (List.range n).countP (fun i => decide (i < k)) = k := by
  induction n with
  | zero => simp [Nat.le_zero.1 within]
  | succ n ih =>
    rw [List.range_succ, List.countP_append]
    rcases Nat.lt_or_eq_of_le within with less | rfl
    · rw [ih (by omega)]
      simp; omega
    · have all : (List.range n).countP (fun i => decide (i < n + 1)) = n := by
        rw [List.countP_eq_length.2 (by simp; omega), List.length_range]
      rw [all]
      simp

/-- The first k places are those of k elements. -/
theorem StrictOn.countP_placeOf (strict : StrictOn ahead l) (nodup : l.Nodup) {k : Nat} (within : k ≤ l.length) :
    l.countP (fun x => decide (placeOf ahead l x < k)) = k := by
  have counted := (strict.places_perm nodup).countP_eq (fun i => decide (i < k))
  rw [List.countP_map, countP_range_lt _ _ within] at counted
  exact counted

end

/-! ## One class shared (R76, R77) -/

/-- A request stands before another in the order of remainders: a greater remainder, or an equal one of a lower zone (R77). -/
def requestAhead (R D : Nat) (p q : Zone × Nat) : Bool :=
  decide (shareRemainder R D q.2 < shareRemainder R D p.2) ||
  (shareRemainder R D p.2 == shareRemainder R D q.2 && decide (p.1 < q.1))

theorem requestAhead_iff (R D : Nat) (p q : Zone × Nat) : requestAhead R D p q = true ↔
    q.2 * R % D < p.2 * R % D ∨ (q.2 * R % D = p.2 * R % D ∧ p.1 < q.1) := by
  rw [requestAhead, Bool.or_eq_true, decide_eq_true_eq, Bool.and_eq_true, beq_iff_eq, decide_eq_true_eq, eq_comm (a := q.2 * R % D)]
  exact Iff.rfl

theorem aheadOf_eq_placeOf (R D : Nat) (reqs : List (Zone × Nat)) (p : Zone × Nat) :
    aheadOf R D reqs p.1 p.2 = placeOf (requestAhead R D) reqs p := rfl

/-- Requests of different zones are set apart by the order of remainders. -/
theorem requestAhead_strict (R D : Nat) {reqs : List (Zone × Nat)} (nodup : (grantZones reqs).Nodup) :
    StrictOn (requestAhead R D) reqs where
  irrefl p := by simp [requestAhead]
  trans p q r first second := by
    rw [requestAhead_iff] at *
    rcases first with more | ⟨same, lower⟩ <;> rcases second with more' | ⟨same', lower'⟩
    · exact .inl (by omega)
    · exact .inl (by omega)
    · exact .inl (by omega)
    · exact .inr ⟨by omega, lower.trans lower'⟩
  total p hp q hq differ := by
    have zones : p.1 ≠ q.1 := fun same => differ (List.inj_on_of_nodup_map nodup hp hq same)
    rw [requestAhead_iff, requestAhead_iff]
    rcases lt_trichotomy (p.2 * R % D) (q.2 * R % D) with less | same | more
    · exact .inr (.inl less)
    · rcases lt_or_gt_of_ne zones with lower | higher
      · exact .inl (.inr ⟨same.symm, lower⟩)
      · exact .inr (.inr ⟨same, higher⟩)
    · exact .inl (.inl more)

/-- The floors and the remainders of a shared class make up what is shared. -/
theorem floors_and_remainders (R D : Nat) (reqs : List (Zone × Nat)) :
    D * (floorGrants R D reqs).sum + (reqs.map (fun p => p.2 * R % D)).sum = (reqs.map (fun p => p.2)).sum * R := by
  unfold floorGrants
  induction reqs with
  | nil => simp
  | cons p rest ih =>
    have one := Nat.div_add_mod (p.2 * R) D
    simp only [List.map_cons, List.sum_cons, Nat.mul_add, Nat.add_mul]
    omega

theorem remainders_le (R D : Nat) (positive : 0 < D) (reqs : List (Zone × Nat)) :
    (reqs.map (fun p => p.2 * R % D)).sum ≤ D * reqs.length := by
  induction reqs with
  | nil => simp
  | cons p rest ih =>
    have less := Nat.mod_lt (p.2 * R) positive
    simp only [List.map_cons, List.sum_cons, List.length_cons, Nat.mul_add, Nat.mul_one]
    omega

/-- The floors fit into what is shared, and what they leave over is at most one for each request (R76). -/
theorem leftover_le (R : Nat) (reqs : List (Zone × Nat)) {D : Nat} (isSum : D = (reqs.map (fun p => p.2)).sum) (short : R < D) :
    (floorGrants R D reqs).sum + leftover R D reqs = R ∧ leftover R D reqs ≤ reqs.length := by
  have total := floors_and_remainders R D reqs
  have bound := remainders_le R D (by omega) reqs
  rw [← isSum] at total
  have fits : (floorGrants R D reqs).sum ≤ R := by
    refine Nat.le_of_mul_le_mul_left ?_ (show 0 < D by omega)
    omega
  refine ⟨Nat.add_sub_cancel' fits, Nat.le_of_mul_le_mul_left ?_ (show 0 < D by omega)⟩
  rw [leftover, Nat.mul_sub]
  omega

/-- Whether a request takes one of the units that the floors leave over (R77). -/
def extraUnit (R D : Nat) (reqs : List (Zone × Nat)) (p : Zone × Nat) : Bool :=
  decide (placeOf (requestAhead R D) reqs p < leftover R D reqs)

/-- A class whose requests exceed what remains, shared (R76, R77). -/
theorem shareClass_short (R : Nat) (reqs : List (Zone × Nat)) {D : Nat} (isSum : D = (reqs.map (fun p => p.2)).sum)
    (short : R < D) : shareClass R reqs =
      (reqs.map (fun p => (p.1, p.2 * R / D + if extraUnit R D reqs p then 1 else 0)), 0) := by
  subst isSum
  refine (if_neg (Nat.not_le.2 short)).trans ?_
  simp only [extraUnit, decide_eq_true_eq, aheadOf_eq_placeOf]
  exact rfl

theorem sum_map_add_ite {β : Type} (l : List β) (f : β → Nat) (p : β → Bool) :
    (l.map (fun x => f x + if p x then 1 else 0)).sum = (l.map f).sum + l.countP p := by
  induction l with
  | nil => rfl
  | cons x rest ih =>
    simp only [List.map_cons, List.sum_cons, List.countP_cons, ih]
    omega

/-- The grants of a shared class add up to what remained (R76). -/
theorem shareClass_sum (R : Nat) {reqs : List (Zone × Nat)} (nodup : (grantZones reqs).Nodup) {D : Nat}
    (isSum : D = (reqs.map (fun p => p.2)).sum) (short : R < D) : ((shareClass R reqs).1.map (fun p => p.2)).sum = R := by
  obtain ⟨fits, within⟩ := leftover_le R reqs isSum short
  rw [shareClass_short R reqs isSum short, List.map_map]
  have units := (requestAhead_strict R D nodup).countP_placeOf nodup.of_map within
  have split := sum_map_add_ite reqs (fun p => p.2 * R / D) (extraUnit R D reqs)
  rw [show reqs.countP (extraUnit R D reqs) = leftover R D reqs from units] at split
  exact split.trans fits

/-- The grant of a request in a shared class (R76, R77). -/
theorem grantOf_shareClass_short (R : Nat) {reqs : List (Zone × Nat)} (nodup : (grantZones reqs).Nodup) {D : Nat}
    (isSum : D = (reqs.map (fun p => p.2)).sum) (short : R < D) {p : Zone × Nat} (mem : p ∈ reqs) :
    grantOf (shareClass R reqs).1 p.1 = p.2 * R / D + if extraUnit R D reqs p then 1 else 0 := by
  have zones := shareClass_zones R reqs
  have distinct : (grantZones (shareClass R reqs).1).Nodup := zones ▸ nodup
  rw [shareClass_short R reqs isSum short] at distinct ⊢
  exact grantOf_mem _ distinct _ (List.mem_map.2 ⟨p, mem, rfl⟩)

/-- A unit goes ahead of a floor grant: by the greater remainder, or by the lower zone (R77). -/
theorem requestAhead_of_extraUnit {R D : Nat} {reqs : List (Zone × Nat)} (nodup : (grantZones reqs).Nodup)
    {p q : Zone × Nat} (hp : p ∈ reqs) (hq : q ∈ reqs) (unit : extraUnit R D reqs p = true)
    (floor : extraUnit R D reqs q = false) : requestAhead R D p q = true := by
  rw [extraUnit, decide_eq_true_eq] at unit
  rw [extraUnit, decide_eq_false_iff_not] at floor
  exact (requestAhead_strict R D nodup).ahead_of_placeOf hp hq (by omega)

/-! ## The classes of an allocation (R75) -/

theorem ZonePlan.classOf_cases (p : ZonePlan) : p.classOf = 0 ∨ p.classOf = 1 ∨ p.classOf = 2 ∨ p.classOf = 3 := by
  unfold ZonePlan.classOf
  split
  · exact .inl rfl
  · exact .inr (.inr (.inr rfl))
  · split <;> simp

/-- A zone asks for flow in the class of its demand alone. -/
theorem mem_classRequests {plans : List (Zone × ZonePlan)} (nodup : (plans.map (fun p => p.1)).Nodup) {p : Zone × ZonePlan}
    (mem : p ∈ plans) {k : Nat} (isClass : k ≠ 0) :
    p.1 ∈ grantZones (classRequests plans k) ↔ p.2.classOf = k ∧ 0 < p.2.requested := by
  rw [classRequests_eq plans k isClass, grantZones, List.map_map]
  constructor
  · intro asks
    obtain ⟨q, isAsker, same⟩ := List.mem_map.1 asks
    obtain ⟨hq, asker⟩ := List.mem_filter.1 isAsker
    rw [List.inj_on_of_nodup_map nodup hq mem same] at asker
    exact of_decide_eq_true asker
  · exact fun asker => List.mem_map.2 ⟨p, List.mem_filter.2 ⟨mem, decide_eq_true asker⟩, rfl⟩

theorem classRequests_zones (plans : List (Zone × ZonePlan)) {k : Nat} (isClass : k ≠ 0) {z : Zone}
    (asks : z ∈ grantZones (classRequests plans k)) : z ∈ plans.map (fun p => p.1) := by
  rw [classRequests_eq plans k isClass, grantZones, List.map_map] at asks
  obtain ⟨q, isAsker, rfl⟩ := List.mem_map.1 asks
  exact List.mem_map.2 ⟨q, (List.mem_filter.1 isAsker).1, rfl⟩

/-- The grant of a zone is what the first class that names it gives (R75). -/
theorem grantOf_shareFlow (A : Nat) (plans : List (Zone × ZonePlan)) (z : Zone) :
    let one := shareClass A (classRequests plans 1)
    let two := shareClass one.2 (classRequests plans 2)
    let three := shareClass two.2 (classRequests plans 3)
    grantOf (shareFlow A plans) z =
      if z ∈ grantZones (classRequests plans 1) then grantOf one.1 z
      else if z ∈ grantZones (classRequests plans 2) then grantOf two.1 z
      else grantOf three.1 z := by
  intro one two three
  have shared : shareFlow A plans = one.1 ++ (two.1 ++ three.1) := List.append_assoc _ _ _
  rw [shared, grantOf_append, grantOf_append, shareClass_zones, shareClass_zones]

/-- Settles O42: one class by floors and remainders, and the three classes in order. -/
theorem sharedClassGoesByRemainders : Obligations.SharedClassGoesByRemainders := by
  unfold Obligations.SharedClassGoesByRemainders
  refine ⟨?_, ?_, fun grants nodup => ⟨grantOf_mem grants nodup, grantOf_none grants⟩⟩
  · intro R reqs nodup D out
    refine ⟨fun fits => if_pos fits, fun short => ⟨?_, shareClass_zones R reqs, shareClass_sum R nodup rfl short, ?_, ?_⟩⟩
    · exact congrArg Prod.snd (shareClass_short R reqs rfl short)
    · intro p mem
      have grant : grantOf out.1 p.1 = _ := grantOf_shareClass_short R nodup rfl short mem
      cases unit : extraUnit R D reqs p with
      | true => exact .inr (by rw [grant, if_pos unit])
      | false => exact .inl (by rw [grant, if_neg (by rw [unit]; exact Bool.false_ne_true)]; rfl)
    · intro p hp q hq more less
      have grant_p : grantOf out.1 p.1 = _ := grantOf_shareClass_short R nodup rfl short hp
      have grant_q : grantOf out.1 q.1 = _ := grantOf_shareClass_short R nodup rfl short hq
      have unit : extraUnit R D reqs p = true := by
        by_contra none
        rw [grant_p, if_neg none] at more
        exact absurd more (Nat.ne_of_lt (Nat.lt_succ_self _))
      have floor : extraUnit R D reqs q = false := by
        by_contra some
        rw [grant_q, if_pos (Bool.not_eq_false _ |>.mp some)] at less
        exact absurd less.symm (Nat.ne_of_lt (Nat.lt_succ_self _))
      exact (requestAhead_iff R D p q).1 (requestAhead_of_extraUnit nodup hp hq unit floor)
  · intro A plans nodup classOf reqs one two three
    have asked : ∀ k, k ≠ 0 → classRequests plans k = reqs k := classRequests_eq plans
    have granted := grantOf_shareFlow A plans
    simp only [asked 1 (by decide), asked 2 (by decide), asked 3 (by decide)] at granted
    have asks : ∀ p ∈ plans, ∀ k, k ≠ 0 → (p.1 ∈ grantZones (reqs k) ↔ p.2.classOf = k ∧ 0 < p.2.requested) :=
      fun p mem k isClass => asked k isClass ▸ mem_classRequests nodup mem isClass
    have named : ∀ k, k ≠ 0 → ∀ z, z ∈ grantZones (reqs k) → z ∈ plans.map (fun p => p.1) :=
      fun k isClass z => asked k isClass ▸ classRequests_zones plans isClass
    have unnamed : ∀ z, z ∉ grantZones (reqs 3) → grantOf three.1 z = 0 := fun z absent =>
      grantOf_none _ _ (by rw [shareClass_zones]; exact absent)
    refine ⟨fun p mem => ?_, fun z absent => ?_⟩
    · rw [granted, if_congr (asks p mem 1 (by decide)) rfl rfl, if_congr (asks p mem 2 (by decide)) rfl rfl]
      have last := asks p mem 3 (by decide)
      have isClass : classOf p.2 = p.2.classOf := rfl
      rw [isClass]
      by_cases idle : p.2.requested = 0
      · have nothing : ∀ k, ¬ (p.2.classOf = k ∧ 0 < p.2.requested) := fun k asker => absurd idle asker.2.ne'
        rw [if_neg (nothing 1), if_neg (nothing 2), if_pos idle]
        exact unnamed _ (fun asker => nothing 3 (last.1 asker))
      · have positive : 0 < p.2.requested := Nat.pos_of_ne_zero idle
        rw [if_neg idle]
        rcases p.2.classOf_cases with none | first | second | third
        · rw [none] at last ⊢
          exact unnamed _ (fun asker => absurd (last.1 asker).1 (by decide))
        · rw [first]
          exact if_pos ⟨rfl, positive⟩
        · rw [second, if_neg (fun asker => absurd asker.1 (by decide))]
          exact if_pos ⟨rfl, positive⟩
        · rw [third, if_neg (fun asker => absurd asker.1 (by decide)), if_neg (fun asker => absurd asker.1 (by decide))]
          exact rfl
    · rw [granted, if_neg (fun asker => absent (named 1 (by decide) z asker)),
        if_neg (fun asker => absent (named 2 (by decide) z asker))]
      exact unnamed z (fun asker => absent (named 3 (by decide) z asker))

end Sys2Proof.Machine
end


section
/-! SUPPORT. An allocation by its blocks: stage 4 on the zones, the outputs, and the targets handed (R65). -/

namespace Sys2Proof.Machine

/-! ## The targets handed -/

theorem State.actPresent_outletOf (s : State) (z : Zone) : s.actPresent (outletOf z) = s.store.live.zonePresent z := by
  have outlet : (outletOf z).val = z.val + 1 := Nat.add_comm _ _
  rw [State.actPresent, Layout.actuatorPresent, dif_neg (by omega), dif_pos (by omega)]
  exact congrArg s.store.live.zonePresent (Fin.ext (by simp [outlet]))

theorem State.actPresent_blendDoorOf (s : State) (z : Zone) : s.actPresent (blendDoorOf z) = s.store.live.zonePresent z := by
  have door : (blendDoorOf z).val = z.val + 9 := Nat.add_comm _ _
  rw [State.actPresent, Layout.actuatorPresent, dif_neg (by omega), dif_neg (by omega)]
  exact congrArg s.store.live.zonePresent (Fin.ext (by simp [door]))

/-- Targets of present actuators are all taken, one by one (R153). -/
theorem State.handTargets_of_present (l : List (ActuatorId × Nat)) (s : State)
    (present : ∀ x ∈ l, s.actPresent x.1 = true) :
    s.handTargets l = { s with drive := l.foldl (fun d x => d.handTarget x.1 x.2) s.drive } := by
  induction l generalizing s with
  | nil => rfl
  | cons x rest ih =>
    have first : s.handTarget x.1 x.2 = { s with drive := s.drive.handTarget x.1 x.2 } := if_pos (present x (by simp))
    have others := ih { s with drive := s.drive.handTarget x.1 x.2 } fun y mem => present y (List.mem_cons_of_mem _ mem)
    rw [← first] at others
    refine others.trans ?_
    rw [first]
    rfl

/-! ## Stage 4 -/

/-- The plans of an allocation, for the present zones in ascending number (R65). -/
def State.plans (s : State) : List (Zone × ZonePlan) := s.store.live.presentZones.map (fun z => (z, s.plan z))

/-- The grants of an allocation (R75). -/
def State.grants (s : State) : List (Zone × Nat) := shareFlow s.available s.plans

/-- Stage 4 of an allocation on the present zones, one after another (R65). -/
def State.served (s : State) : State :=
  s.store.live.presentZones.foldl (fun u z => u.serveZone z (s.plan z) (grantOf s.grants z)) s

theorem State.served_eq (s : State) : s.served = { s with
    table := s.served.table, register := s.served.register, link := s.served.link
    climate := { s.climate with zones := s.served.climate.zones } } := by
  have climate := s.serveZones_climate (fun z => z) s.plan (grantOf s.grants) s.store.live.presentZones
  have blocks : s.served.coolant = s.coolant ∧ s.served.air = s.air ∧ s.served.intake = s.intake ∧
      s.served.scanner = s.scanner ∧ s.served.drive = s.drive ∧ s.served.fans = s.fans ∧ s.served.store = s.store ∧
      s.served.modes = s.modes ∧ s.served.pins = s.pins ∧ s.served.pending = s.pending := by
    unfold State.served
    refine ⟨?_, ?_, ?_, ?_, ?_, ?_, ?_, ?_, ?_, ?_⟩ <;> exact foldl_frame _ _ (fun s z => by simp) _ _
  obtain ⟨coolant, air, intake, scanner, drive, fans, store, modes, pins, pending⟩ := blocks
  rw [← coolant, ← air, ← intake, ← scanner, ← drive, ← fans, ← store, ← modes, ← pins, ← pending, State.served, ← climate]

/-- The zones after stage 4: each present one as its own turn writes it, the others as they were (R64, R94). -/
theorem State.serveZones_zones (plan : Zone → ZonePlan) (g : Zone → Nat) (zs : List Zone) (distinct : zs.Nodup) (s : State)
    (z : Zone) : (zs.foldl (fun u z => u.serveZone z (plan z) (g z)) s).climate.zones[z.val] =
      if z ∈ zs then (s.climate.zones[z.val]).after (plan z) (g z) (s.store.live.flowPerLevel z) else s.climate.zones[z.val] := by
  induction zs generalizing s with
  | nil => rfl
  | cons y rest ih =>
    obtain ⟨absent, distinct⟩ := List.nodup_cons.1 distinct
    have store : (s.serveZone y (plan y) (g y)).store = s.store := by simp
    rw [List.foldl_cons, ih distinct, store, State.serveZone_climate]
    simp only [Vector.getElem_set]
    by_cases same : z = y
    · subst same
      simp [absent]
    · have apart : y.val ≠ z.val := fun e => same (Fin.ext e.symm)
      simp [same, apart]

theorem Layout.mem_presentZones (l : Layout) (z : Zone) : z ∈ l.presentZones ↔ l.zonePresent z = true := by
  rw [Layout.presentZones, List.mem_filter, and_iff_right (List.mem_finRange z)]

theorem Layout.presentZones_nodup (l : Layout) : l.presentZones.Nodup := (List.nodup_finRange 8).filter _

theorem State.served_zones (s : State) (z : Zone) : s.served.climate.zones[z.val] =
    if s.store.live.zonePresent z = true then
      (s.climate.zones[z.val]).after (s.plan z) (grantOf s.grants z) (s.store.live.flowPerLevel z)
    else s.climate.zones[z.val] := by
  refine (State.serveZones_zones s.plan _ _ s.store.live.presentZones_nodup s z).trans ?_
  exact if_congr (s.store.live.mem_presentZones z) rfl rfl

/-! ## The whole allocation -/

/-- The blower flow of an allocation (R78). -/
def State.totalGranted (s : State) : Nat := (s.store.live.presentZones.map (grantOf s.grants)).sum

/-- The targets an allocation hands (R65, R153). -/
def State.outputTargets (s : State) : List (ActuatorId × Nat) :=
  s.store.live.presentZones.map (fun z => (outletOf z, s.served.climate.zones[z.val].outletTarget)) ++
  s.store.live.presentZones.filterMap (fun z => (s.plan z).blend.map (fun b => (blendDoorOf z, b)))

theorem State.outputTargets_present (s : State) : ∀ x ∈ s.outputTargets, s.actPresent x.1 = true := by
  intro x mem
  rcases List.mem_append.1 mem with outlet | door
  · obtain ⟨z, present, rfl⟩ := List.mem_map.1 outlet
    rw [State.actPresent_outletOf]
    exact (s.store.live.mem_presentZones z).1 present
  · obtain ⟨z, present, blend⟩ := List.mem_filterMap.1 door
    obtain ⟨b, -, rfl⟩ := Option.map_eq_some_iff.1 blend
    rw [State.actPresent_blendDoorOf]
    exact (s.store.live.mem_presentZones z).1 present

/-- An allocation by what its stages give: the zones served, the blower flow, the targets. -/
theorem State.allocate_hands (s : State) {w : State} {B : Nat} {targets : List (ActuatorId × Nat)}
    (served : s.plans.foldl (fun u p => u.serveZone p.1 p.2 (grantOf s.grants p.1)) s = w)
    (total : (s.plans.map (fun p => grantOf s.grants p.1)).sum = B) (handed : w.allocationTargets s.plans = targets) :
    s.allocate = State.handTargets { w with
      climate := { w.climate with
        availableFlow := s.available, blowerFlow := B, blowerDuty := blowerDuty B s.store.live.bmax
        coolingRequest := s.plans.any (fun p => p.2.contributes), heatRequest := s.plans.any (fun p => p.2.wantsHeat) }
      fans := { w.fans with blowerDuty := blowerDuty B s.store.live.bmax }
      coolant := (w.coolant.handCooling (s.plans.any (fun p => p.2.contributes))).handHeat
        (s.plans.any (fun p => p.2.wantsHeat)) } targets := by
  subst served total handed
  rfl

/-- One allocation (R65): stage 4, the flows and the duty, the two requests, and the targets handed. -/
theorem State.allocate_eq (s : State) :
    let cooling := s.plans.any (fun p => p.2.contributes)
    let heat := s.plans.any (fun p => p.2.wantsHeat)
    let duty := blowerDuty s.totalGranted s.store.live.bmax
    s.allocate = { s with
      table := s.served.table, register := s.served.register, link := s.served.link
      climate := { s.climate with
        zones := s.served.climate.zones, availableFlow := s.available, blowerFlow := s.totalGranted, blowerDuty := duty
        coolingRequest := cooling, heatRequest := heat }
      fans := { s.fans with blowerDuty := duty }
      coolant := (s.coolant.handCooling cooling).handHeat heat
      drive := s.outputTargets.foldl (fun d x => d.handTarget x.1 x.2) s.drive } := by
  intro cooling heat duty
  have folded : s.plans.foldl (fun u p => u.serveZone p.1 p.2 (grantOf s.grants p.1)) s = s.served := List.foldl_map
  have total : (s.plans.map (fun p => grantOf s.grants p.1)).sum = s.totalGranted := by
    rw [State.plans, List.map_map]
    rfl
  have targets : s.served.allocationTargets s.plans = s.outputTargets := by
    rw [State.allocationTargets, State.plans, List.map_map, List.filterMap_map]
    rfl
  obtain ⟨u, is⟩ : ∃ u : State, u = { s.served with
      climate := { s.served.climate with
        availableFlow := s.available, blowerFlow := s.totalGranted, blowerDuty := duty
        coolingRequest := cooling, heatRequest := heat }
      fans := { s.served.fans with blowerDuty := duty }
      coolant := (s.served.coolant.handCooling cooling).handHeat heat } := ⟨_, rfl⟩
  have store : u.store = s.store := by rw [is, s.served_eq]
  have handed : s.allocate = u.handTargets s.outputTargets := is ▸ s.allocate_hands folded total targets
  rw [handed, u.handTargets_of_present _ (fun x mem => by
    rw [State.actPresent, store]
    exact s.outputTargets_present x mem), is, s.served_eq]

end Sys2Proof.Machine
end


section
/-! SUPPORT. The statement about an allocation in RUN: the records it rewrites, their flags, and the frame. -/

namespace Sys2Proof.Machine

/-! ## What stage 4 leaves alone -/

theorem State.Rewrites.andThen {s t u : State} (second : u.Rewrites t (fun _ => True)) (first : t.Rewrites s (fun _ => True)) :
    u.Rewrites s (fun _ => True) := (second.trans first).mono fun _ _ => trivial

/-- A run of operations that each rewrite records and entries alone. -/
theorem State.foldl_rewrites {β : Type} (f : State → β → State) (each : ∀ s x, (f s x).Rewrites s (fun _ => True)) (l : List β)
    (s : State) : (l.foldl f s).Rewrites s (fun _ => True) := by
  induction l generalizing s with
  | nil => exact .refl s _
  | cons x rest ih => exact (ih (f s x)).andThen (each s x)

theorem State.putServed_rewrites (s : State) (n : Slot) (old new : Record) :
    (s.putServed n old new).Rewrites s (fun _ => True) := by
  have set : (s.setSlot n (some new)).Rewrites s (fun _ => True) := (s.setSlot_rewrites n _).mono fun _ _ => trivial
  have limit : ∀ u : State, u.Rewrites s (fun _ => True) → (u.limitNotice n).Rewrites s (fun _ => True) := fun u kept =>
    (u.limitNotice_rewrites n _).andThen kept
  have state : ∀ u : State, u.Rewrites s (fun _ => True) → (u.stateNotice n).Rewrites s (fun _ => True) := fun u kept =>
    (u.stateNotice_rewrites n _).andThen kept
  unfold State.putServed
  dsimp only
  split
  · split
    · exact set
    · exact limit _ set
  · split
    · exact state _ set
    · exact state _ (limit _ set)

theorem State.serveZone_rewrites (s : State) (z : Zone) (p : ZonePlan) (g : Nat) :
    (s.serveZone z p g).Rewrites s (fun _ => True) := by
  have zoned := s.setZone_rewrites z (s.climate.zones[z.val].after p g (s.store.live.flowPerLevel z)) (fun _ => True)
  unfold State.serveZone
  refine (State.foldl_rewrites State.putBehind (fun u n => (u.putBehind_after n).1.mono fun _ _ => trivial) _ _).andThen ?_
  split
  · exact (State.putServed_rewrites _ _ _ _).andThen zoned
  · exact zoned

theorem State.served_rewrites (s : State) : s.served.Rewrites s (fun _ => True) :=
  State.foldl_rewrites _ (fun u z => u.serveZone_rewrites z _ _) _ _

/-! ## The flags of a governing record -/

/-- A COMFORT record's blend is held exactly while the spread is not usable (R90, R92). -/
theorem State.plan_blend_comfort (s : State) (z : Zone) {n : Slot} {r : Record} (served : s.demand z = .record n r)
    (comfort : r.kind = .comfort) : (s.plan z).blend = none ↔ s.decks.isSome = false := by
  simp only [State.plan, State.newBlend, State.dischargeTarget, served, Demand.kind, comfort]
  cases s.decks <;> simp

/-- A governing record as the statement writes it (R74, R81, R95, R96, R97). -/
theorem State.writeServed_eq (s : State) (z : Zone) (g : Nat) {n : Slot} {r : Record} (served : s.demand z = .record n r) :
    let faulted := fun a : ActuatorId => (s.drive.act a).state = .faulted
    let p := s.plan z
    s.writeServed z p g r = { r with
      state := if faulted (outletOf z) then .blocked else if g = p.full then .active else .limited
      grantedFlow := some (if faulted (outletOf z) then 0 else g)
      grantedLevel := some (if faulted (outletOf z) then 0 else g / s.store.live.zones[z.val].flowPerLevel)
      flags := {
        clamped := r.flags.clamped
        noTemp := decide (faulted (blendDoorOf z) ∨ (r.kind = .comfort ∧ p.blend = none))
        noCool := decide (p.contributes = true ∧ s.coolant.clutch = .locked)
        coldEngine := decide (r.kind = .comfort ∧ ¬ faulted (outletOf z) ∧ p.used < p.level) } } := by
  intro faulted p
  have held : r.kind = .comfort → (p.blend = none ↔ s.decks.isSome = false) := s.plan_blend_comfort z served
  have outlet : s.outletFaulted z = decide (faulted (outletOf z)) := by
    simp [State.outletFaulted, State.actFaulted, faulted, Bool.beq_eq_decide_eq]
  have door : s.actFaulted (blendDoorOf z) = decide (faulted (blendDoorOf z)) := by
    simp [State.actFaulted, faulted, Bool.beq_eq_decide_eq]
  have temp : noTempFlag r.kind (decide (faulted (blendDoorOf z))) s.decks.isSome =
      decide (faulted (blendDoorOf z) ∨ (r.kind = .comfort ∧ p.blend = none)) := by
    rw [Bool.eq_iff_iff]
    simp only [noTempFlag, Bool.or_eq_true, Bool.and_eq_true, decide_eq_true_eq, beq_iff_eq, Bool.not_eq_true']
    exact or_congr Iff.rfl (and_congr_right fun comfort => (held comfort).symm)
  have cool : noCoolFlag p.contributes s.coolant.clutch = decide (p.contributes = true ∧ s.coolant.clutch = .locked) := by
    rw [Bool.eq_iff_iff]
    simp [noCoolFlag]
  have cold : coldEngineFlag r.kind (decide (faulted (outletOf z))) p.level p.used =
      decide (r.kind = .comfort ∧ ¬ faulted (outletOf z) ∧ p.used < p.level) := by
    rw [Bool.eq_iff_iff]
    simp [coldEngineFlag, and_assoc]
  simp only [State.writeServed, servedState, outlet, door, temp, cool, cold, decide_eq_true_eq, Layout.flowPerLevel]

/-! ## The statement -/

/-- The present zones, as the statements filter them. -/
theorem Layout.presentZones_eq (l : Layout) :
    l.presentZones = (List.finRange 8).filter (fun z => decide (l.zones[z.val].present ≠ 0)) :=
  List.filter_congr fun z _ => Bool.eq_iff_iff.2 (by rw [Layout.zonePresent, bne_iff_ne, decide_eq_true_eq])

/-- The state in which an allocation in RUN is made: the period begun again, the supply level recomputed (R63, R68). -/
def State.recomputed (s : State) : State :=
  ({ s with climate := { s.climate with allocationTimer := some Config.allocationPeriod } }).recomputeSupply

theorem exec_allocation_run (s : State) (run : s.modes.mode = .run) : exec .allocation s = .next s.recomputed.allocate :=
  congrArg Host.Outcome.next (if_pos run)

/-- The allocation leaves of the table all but the slots, and of the register all but the entries. -/
theorem State.allocate_tables (s : State) :
    s.allocate.table = { s.table with slots := s.allocate.table.slots } ∧
    s.allocate.register = { s.register with entries := s.allocate.register.entries } ∧
    ∀ st, s.allocate.entry st = { s.entry st with overrun := (s.allocate.entry st).overrun } := by
  obtain ⟨_, lists, counter, timer, entries, locks, supply⟩ := s.served_rewrites
  have eq := s.allocate_eq
  have table : s.allocate.table = s.served.table := by rw [eq]
  have register : s.allocate.register = s.served.register := by rw [eq]
  refine ⟨?_, ?_, ?_⟩
  · rw [table]
    dsimp only
    rw [← lists, ← counter, ← timer]
  · rw [register]
    dsimp only
    rw [← locks, ← supply]
  · intro st
    rw [State.entry_congr (congrArg StationRegister.entries register)]
    exact entries st

theorem State.zoneChanges_congr {t u s r : State} (after : ∀ m, t.record m = u.record m) (before : ∀ m, s.record m = r.record m)
    (l : List Slot) : t.zoneChanges s l = u.zoneChanges r l := by
  cases l with
  | nil => rfl
  | cons n rest =>
    have state : t.stateChange s = u.stateChange r := funext fun m => State.stateChange_congr (before m) (after m)
    simp only [State.zoneChanges, state, State.limitChange_congr (before n) (after n)]

/-- What an allocation does to the records of a sound table, and its notices (R32, R34, R81, R82). -/
theorem State.TableSound.allocate_records {s : State} (sound : s.TableSound) :
    (∀ z n rest, s.store.live.zonePresent z = true → s.list (zoneTarget z) = n :: rest →
      s.allocate.record n = (s.record n).map (s.writeServed z (s.plan z) (grantOf s.grants z)) ∧
      ∀ m ∈ rest, s.allocate.record m = (s.record m).map (fun r => { r with
        state := .queued, grantedFlow := some 0, grantedLevel := some 0, flags := r.flags.cleared })) ∧
    (∀ m, (∀ z : Zone, s.store.live.zonePresent z = true → m ∉ s.list (zoneTarget z)) → s.allocate.record m = s.record m) ∧
    s.allocate.AfterNotices s
      (s.store.live.presentZones.flatMap (fun z => s.allocate.zoneChanges s (s.list (zoneTarget z)))) := by
  have eq := s.allocate_eq
  obtain ⟨rewrites, records, notices⟩ : s.served.Rewrites s _ ∧ _ := sound.serveZones (grantOf s.grants)
  have table : s.allocate.table = s.served.table := by rw [eq]
  have register : s.allocate.register = s.served.register := by rw [eq]
  have link : s.allocate.link = s.served.link := by rw [eq]
  have record : ∀ m, s.allocate.record m = s.served.record m :=
    State.record_congr (congrArg DemandTable.slots table)
  refine ⟨fun z n rest present isList => ?_, fun m outside => ?_, ?_⟩
  · obtain ⟨first, behind⟩ := records z ((s.store.live.mem_presentZones z).2 present) n rest isList
    exact ⟨(record n).trans first, fun m isBehind => (record m).trans (behind m isBehind)⟩
  · refine (record m).trans (rewrites.records m ?_)
    rintro ⟨z, present, listed⟩
    exact outside z ((s.store.live.mem_presentZones z).1 present) listed
  · have changes : ∀ l, s.allocate.zoneChanges s l = s.served.zoneChanges s l := State.zoneChanges_congr record fun _ => rfl
    simp only [changes]
    exact notices.congr_left (State.sameNotices_of link register)

/-- Settles O40: the supply level recomputed, then an allocation by its blocks. -/
theorem allocationSetsFlowsAndDuty : Obligations.AllocationSetsFlowsAndDuty := by
  unfold Obligations.AllocationSetsFlowsAndDuty
  intro s run level
  have recomputed : s.recomputed = { s with
      climate := { s.climate with allocationTimer := some 1000, effectiveSupply := level }
      coolant := if level = s.climate.effectiveSupply then s.coolant
        else s.coolant.judge { s.coolant.lockouts with supply := decide (level = 3) } } := State.recomputeSupply_eq _
  obtain ⟨u, isU⟩ : ∃ u, u = s.recomputed := ⟨_, rfl⟩
  rw [← isU] at recomputed
  have same : u.table = s.table ∧ u.register = s.register ∧ u.store = s.store ∧ u.drive = s.drive ∧ u.link = s.link := by
    rw [recomputed]
    exact ⟨rfl, rfl, rfl, rfl, rfl⟩
  obtain ⟨table, register, store, drive, link⟩ := same
  have eq := u.allocate_eq
  have zones := u.served_zones
  obtain ⟨tables, registers, entries⟩ := u.allocate_tables
  obtain ⟨t, isT⟩ : ∃ t, t = u.allocate := ⟨_, rfl⟩
  rw [← isT] at eq tables registers entries
  have record : ∀ m, u.record m = s.record m := State.record_congr (congrArg DemandTable.slots table)
  have list : ∀ x, u.list x = s.list x := State.list_congr (congrArg DemandTable.lists table)
  refine ⟨t, u, ?_, recomputed, ?_, ?_, ?_, ?_⟩
  · rw [exec_allocation_run s run, ← isU, isT]
  · intro present plans grants faulted
    have isPresent : present = s.store.live.presentZones := s.store.live.presentZones_eq.symm
    have isPlans : plans = u.plans := by
      rw [State.plans, store, ← isPresent]
    have shared : t.climate.availableFlow = u.available := by rw [eq]
    have isGrants : grants = u.grants := by
      rw [State.grants, ← shared, ← isPlans]
    have served : ∀ z : Zone, t.climate.zones[z.val] = u.served.climate.zones[z.val] := fun z => by rw [eq]
    have old : u.climate.zones = s.climate.zones := by rw [recomputed]
    refine ⟨?_, ?_, ?_, ?_, ?_, ?_, ?_, ?_, ?_, ?_, ?_⟩
    · intro z isPresent g q p
      have written := zones z
      rw [store, if_pos isPresent, old] at written
      have isGrant : g = grantOf u.grants z := congrArg (grantOf · z) isGrants
      rw [served z, written, isGrant]
      exact rfl
    · intro z absent
      rw [served z, zones z, store, absent, old]
      exact if_neg Bool.false_ne_true
    · rw [isPresent, isGrants, eq, ← store]
      exact rfl
    · rw [eq, store]
      exact rfl
    · rw [eq]
    · rw [shared, State.available, recomputed]
      exact rfl
    · rw [eq, isPlans]
    · rw [eq, isPlans]
    · rw [eq]
    · rw [isPresent, ← store, ← drive, eq]
      exact rfl
    · intro sound
      have soundU : u.TableSound := sound.rewritten (.of_register table (congrArg LayoutStore.live store) register)
      obtain ⟨records, others, notices⟩ := soundU.allocate_records
      rw [← isT] at records others notices
      simp only [list, record, store] at records others
      refine ⟨fun z n rest present isList => ?_, others, ?_⟩
      · intro g p
        obtain ⟨first, behind⟩ := records z n rest present isList
        refine ⟨first.trans ?_, behind⟩
        have isGrant : g = grantOf u.grants z := congrArg (grantOf · z) isGrants
        cases live : s.record n with
        | none => rfl
        | some r =>
          have governs : u.demand z = .record n r := by
            rw [State.demand_eq_record_iff, list, record, isList]
            exact ⟨rfl, live⟩
          rw [Option.map_some, Option.map_some, u.writeServed_eq z _ governs, ← isGrant, drive, store]
      · have changes : ∀ l, t.zoneChanges u l = t.zoneChanges s l := State.zoneChanges_congr (fun _ => rfl) record
        simp only [changes, list, store] at notices
        rw [isPresent]
        exact notices.congr_right (State.sameNotices_of link register)
  · have frame : t = { u with
        table := t.table, register := t.register, link := t.link, coolant := t.coolant, drive := t.drive
        climate := { t.climate with
          voltageLevel := u.climate.voltageLevel, allocationTimer := u.climate.allocationTimer }
        fans := { u.fans with blowerDuty := t.fans.blowerDuty } } := by rw [eq]
    rw [table] at tables
    rw [register] at registers
    rw [← tables, ← registers]
    exact frame.trans (by rw [recomputed])
  · rw [eq, recomputed]
  · intro st
    rw [entries st, State.entry_congr (congrArg StationRegister.entries register)]

end Sys2Proof.Machine
end


section
/-! SUPPORT. The statement about an allocation's bounds, and what an allocation finds for a zone. -/

namespace Sys2Proof.Machine

/-! ## The grants within the available flow (R76, R78) -/

theorem classRequests_nodup {plans : List (Zone × ZonePlan)} (nodup : (plans.map (fun p => p.1)).Nodup) {k : Nat}
    (isClass : k ≠ 0) : (grantZones (classRequests plans k)).Nodup := by
  rw [classRequests_eq plans k isClass, grantZones, List.map_map]
  exact nodup.sublist (List.filter_sublist.map _)

/-- What a class is granted and what remains after it make up what it shared. -/
theorem shareClass_total (R : Nat) {reqs : List (Zone × Nat)} (nodup : (grantZones reqs).Nodup) :
    ((shareClass R reqs).1.map (fun p => p.2)).sum + (shareClass R reqs).2 = R := by
  by_cases fits : (reqs.map (fun p => p.2)).sum ≤ R
  · rw [show shareClass R reqs = (reqs, R - (reqs.map (fun p => p.2)).sum) from if_pos fits]
    exact Nat.add_sub_cancel' fits
  · have short := Nat.not_le.1 fits
    rw [shareClass_sum R nodup rfl short, shareClass_short R reqs rfl short]
    exact Nat.add_zero R

theorem shareFlow_sum_le (A : Nat) {plans : List (Zone × ZonePlan)} (nodup : (plans.map (fun p => p.1)).Nodup) :
    ((shareFlow A plans).map (fun p => p.2)).sum ≤ A := by
  have one := shareClass_total A (classRequests_nodup nodup (k := 1) (by decide))
  have two := shareClass_total (shareClass A (classRequests plans 1)).2 (classRequests_nodup nodup (k := 2) (by decide))
  have three := shareClass_total (shareClass (shareClass A (classRequests plans 1)).2 (classRequests plans 2)).2
    (classRequests_nodup nodup (k := 3) (by decide))
  simp only [shareFlow, List.map_append, List.sum_append]
  omega

theorem grantOf_cons (p : Zone × Nat) (grants : List (Zone × Nat)) (z : Zone) :
    grantOf (p :: grants) z = if p.1 = z then p.2 else grantOf grants z := by
  unfold grantOf
  rw [List.find?_cons]
  by_cases same : p.1 = z
  · simp [same]
  · have differs : (p.1 == z) = false := beq_eq_false_iff_ne.2 same
    rw [differs, if_neg same]

theorem sum_map_ite_le (z : Zone) (n : Nat) (f : Zone → Nat) {zs : List Zone} (distinct : zs.Nodup) :
    (zs.map (fun y => if z = y then n else f y)).sum ≤ n + (zs.map f).sum := by
  induction zs with
  | nil => exact Nat.zero_le _
  | cons y rest ih =>
    obtain ⟨absent, distinct⟩ := List.nodup_cons.1 distinct
    rw [List.map_cons, List.sum_cons, List.map_cons, List.sum_cons]
    by_cases same : z = y
    · subst same
      have others : rest.map (fun y => if z = y then n else f y) = rest.map f :=
        List.map_congr_left fun y mem => if_neg (show ¬ z = y from fun e => absent (e ▸ mem))
      rw [if_pos rfl, others]
      omega
    · rw [if_neg same]
      have := ih distinct
      omega

/-- Different zones take no more than the grants add up to. -/
theorem sum_grantOf_le {zs : List Zone} (distinct : zs.Nodup) (grants : List (Zone × Nat)) :
    (zs.map (grantOf grants)).sum ≤ (grants.map (fun p => p.2)).sum := by
  induction grants with
  | nil =>
    have none : zs.map (grantOf []) = zs.map (fun _ => 0) := List.map_congr_left fun z _ => rfl
    rw [none]
    simp
  | cons p rest ih =>
    have cons : zs.map (grantOf (p :: rest)) = zs.map (fun z => if p.1 = z then p.2 else grantOf rest z) :=
      List.map_congr_left fun z _ => grantOf_cons p rest z
    rw [cons, List.map_cons, List.sum_cons]
    exact (sum_map_ite_le p.1 p.2 _ distinct).trans (Nat.add_le_add_left ih _)

/-- No request is granted more than it asks (R76). -/
theorem grantOf_shareClass_le (R : Nat) {reqs : List (Zone × Nat)} (nodup : (grantZones reqs).Nodup) {p : Zone × Nat}
    (mem : p ∈ reqs) (asks : 0 < p.2) : grantOf (shareClass R reqs).1 p.1 ≤ p.2 := by
  by_cases fits : (reqs.map (fun p => p.2)).sum ≤ R
  · rw [show shareClass R reqs = (reqs, R - (reqs.map (fun p => p.2)).sum) from if_pos fits]
    exact (grantOf_mem reqs nodup p mem).le
  · have short := Nat.not_le.1 fits
    rw [grantOf_shareClass_short R nodup rfl short mem]
    have less : p.2 * R / (reqs.map (fun p => p.2)).sum < p.2 :=
      Nat.div_lt_of_lt_mul (by rw [Nat.mul_comm]; exact Nat.mul_lt_mul_of_pos_right short asks)
    split <;> omega

theorem grantOf_shareFlow_le (A : Nat) {plans : List (Zone × ZonePlan)} (nodup : (plans.map (fun p => p.1)).Nodup)
    {p : Zone × ZonePlan} (mem : p ∈ plans) : grantOf (shareFlow A plans) p.1 ≤ p.2.requested := by
  have granted : ∀ k, k ≠ 0 → ∀ R, p.1 ∈ grantZones (classRequests plans k) →
      grantOf (shareClass R (classRequests plans k)).1 p.1 ≤ p.2.requested := by
    intro k isClass R asks
    obtain ⟨ofClass, positive⟩ := (mem_classRequests nodup mem isClass).1 asks
    have request : (p.1, p.2.requested) ∈ classRequests plans k := by
      rw [classRequests_eq plans k isClass]
      exact List.mem_map.2 ⟨p, List.mem_filter.2 ⟨mem, decide_eq_true ⟨ofClass, positive⟩⟩, rfl⟩
    exact grantOf_shareClass_le R (classRequests_nodup nodup isClass) request positive
  rw [grantOf_shareFlow]
  split
  · exact granted 1 (by decide) _ ‹_›
  · split
    · exact granted 2 (by decide) _ ‹_›
    · by_cases asks : p.1 ∈ grantZones (classRequests plans 3)
      · exact granted 3 (by decide) _ asks
      · rw [grantOf_none _ _ (by rw [shareClass_zones]; exact asks)]
        exact Nat.zero_le _

/-! ## The available flow and the duty (R69, R80) -/

theorem State.plans_nodup (s : State) : (s.plans.map (fun p => p.1)).Nodup := by
  rw [State.plans, List.map_map]
  exact s.store.live.presentZones_nodup.map fun _ _ same => same

theorem State.totalGranted_le (s : State) : s.totalGranted ≤ s.available :=
  (sum_grantOf_le s.store.live.presentZones_nodup s.grants).trans (shareFlow_sum_le s.available s.plans_nodup)

theorem supplyPercent_le (level : Nat) : supplyPercent level ≤ 100 := by
  unfold supplyPercent
  split <;> decide

theorem State.available_le (s : State) : s.available ≤ s.store.live.bmax := by
  unfold State.available
  split
  · exact Nat.zero_le _
  · exact Nat.div_le_of_le_mul (by rw [Nat.mul_comm]; exact Nat.mul_le_mul_right _ (supplyPercent_le _))

/-- A blower duty is 0 or lies from 150 to 1000 (R80). -/
theorem blowerDuty_range {B bmax : Nat} (within : B ≤ bmax) :
    blowerDuty B bmax = 0 ∨ (150 ≤ blowerDuty B bmax ∧ blowerDuty B bmax ≤ 1000) := by
  unfold blowerDuty
  by_cases idle : B = 0
  · exact .inl (if_pos idle)
  · rw [if_neg idle]
    refine .inr ⟨le_max_left _ _, max_le (by decide) ?_⟩
    refine Nat.le_of_lt_succ ((Nat.div_lt_iff_lt_mul (by omega)).2 ?_)
    omega

/-- What an allocation finds for a zone does not depend on the supply level it recomputes. -/
theorem State.plan_recomputed (s : State) (z : Zone) : s.recomputed.plan z = s.plan z := by
  have eq : s.recomputed = _ := State.recomputeSupply_eq _
  rw [eq]
  exact rfl

/-- The flows, the duty and the grants of an allocation (R78, R80). -/
theorem State.allocate_bounds (s : State) :
    s.allocate.climate.blowerFlow ≤ s.allocate.climate.availableFlow ∧
    s.allocate.climate.availableFlow ≤ s.store.live.bmax ∧
    (s.allocate.fans.blowerDuty = 0 ∨ (150 ≤ s.allocate.fans.blowerDuty ∧ s.allocate.fans.blowerDuty ≤ 1000)) ∧
    ∀ z : Zone, s.store.live.zonePresent z = true → s.allocate.climate.zones[z.val].grantedFlow ≤ (s.plan z).requested := by
  have eq := s.allocate_eq
  have flow : s.allocate.climate.blowerFlow = s.totalGranted := by rw [eq]
  have available : s.allocate.climate.availableFlow = s.available := by rw [eq]
  have duty : s.allocate.fans.blowerDuty = blowerDuty s.totalGranted s.store.live.bmax := by rw [eq]
  have zones : s.allocate.climate.zones = s.served.climate.zones := by rw [eq]
  rw [flow, available, duty, zones]
  refine ⟨s.totalGranted_le, s.available_le, blowerDuty_range (s.totalGranted_le.trans s.available_le), fun z present => ?_⟩
  rw [s.served_zones z, if_pos present]
  exact grantOf_shareFlow_le s.available s.plans_nodup (p := (z, s.plan z))
    (List.mem_map.2 ⟨z, (s.store.live.mem_presentZones z).2 present, rfl⟩)

end Sys2Proof.Machine
end


section
/-! SUPPORT. What an allocation finds for a zone: its demand, its temperatures and blend, its level and requests. -/

namespace Sys2Proof.Machine

/-! ## The demand (R71, R72) -/

/-- A demand is served as kind k: the synthetic one as COMFORT, a record as its kind (R72). -/
theorem Demand.kind_eq_some_iff (d : Demand) (k : Kind) :
    d.kind = some k ↔ (d = .synthetic ∧ k = .comfort) ∨ ∃ n r, d = .record n r ∧ r.kind = k := by
  cases d with
  | none => simp [Demand.kind]
  | synthetic => simp [Demand.kind, eq_comm]
  | record n r => simp [Demand.kind]

theorem Demand.isComfort_iff (d : Demand) :
    d.isComfort = true ↔ d = .synthetic ∨ ∃ n r, d = .record n r ∧ r.kind = .comfort := by
  rw [Demand.isComfort, beq_iff_eq, Demand.kind_eq_some_iff, and_iff_left rfl]

theorem Demand.kind_eq_comfort_iff (d : Demand) : d.kind = some .comfort ↔ d.isComfort = true := by
  rw [Demand.isComfort, beq_iff_eq]

/-- A demand served as a kind other than COMFORT is a record of that kind. -/
theorem Demand.kind_of_record {d : Demand} {k : Kind} (served : ∃ n r, d = .record n r ∧ r.kind = k) : d.kind = some k :=
  (d.kind_eq_some_iff k).2 (.inr served)

theorem Demand.record_of_kind {d : Demand} {k : Kind} (other : k ≠ .comfort) :
    d.kind = some k ↔ ∃ n r, d = .record n r ∧ r.kind = k := by
  rw [Demand.kind_eq_some_iff, or_iff_right (fun synthetic => other synthetic.2)]

/-- The set-point of a COMFORT or synthetic demand (R72, R73). -/
theorem Demand.setpoint_iff (d : Demand) (l : Layout) (v : Int) :
    ((d = .synthetic ∧ v = l.cabSetpoint) ∨ ∃ n r, d = .record n r ∧ r.kind = .comfort ∧ v = ((r.value.getD 0 : Nat) : Int)) ↔
      d.isComfort = true ∧ v = d.setpoint l := by
  cases d with
  | none => simp [Demand.isComfort, Demand.kind]
  | synthetic => simp [Demand.isComfort, Demand.kind, Demand.setpoint]
  | record n r => simp [Demand.isComfort, Demand.kind, Demand.setpoint]

theorem State.purging_iff (s : State) : s.purging = true ↔
    ∃ n r, ((s.list 8).head? = some n ∧ s.record n = some r) ∧ r.kind = .purge := by
  have intake : intakeTarget = 8 := rfl
  unfold State.purging State.governing State.first
  rw [intake]
  cases head : (s.list 8).head? with
  | none => simp
  | some n => cases live : s.record n <;> simp [live]

/-- A zone with no record is served for the synthetic demand while a PURGE governs the intake, zone 0 excepted (R71, R72). -/
theorem State.demand_of_empty (s : State) (z : Zone) (empty : s.list (zoneTarget z) = []) :
    s.demand z = if z ≠ 0 ∧ s.purging = true then .synthetic else .none := by
  have ungoverned : s.governing (zoneTarget z) = none := by
    rw [State.governing, State.first, empty]
    exact rfl
  rw [State.demand, ungoverned]

/-! ## The zone temperature (R86, R87) -/

theorem State.zoneTemperature_own (s : State) (z : Zone) (d : Demand) {x : Int}
    (own : s.healthy (zoneChannel s.store.live z) = some x) : s.zoneTemperature z d = some x := by
  rw [State.zoneTemperature, own]

/-- Without its own channel a zone takes the mean of the cab, and without one its set-point (R87). -/
theorem State.zoneTemperature_substitute (s : State) (z : Zone) (d : Demand)
    (lost : s.healthy (zoneChannel s.store.live z) = none) {seen : List Int} (isSeen : s.cabReadings.Perm seen) :
    s.zoneTemperature z d = if seen = [] then (if d.isComfort then some (d.setpoint s.store.live) else none)
      else some (seen.sum.tdiv (seen.length : Int)) := by
  rw [State.zoneTemperature, lost, s.cabMean_of_perm seen isSeen]
  by_cases empty : seen = []
  · rw [if_pos empty, if_pos empty]
  · rw [if_neg empty, if_neg empty]

/-- A COMFORT or synthetic demand always has a zone temperature (R87). -/
theorem State.zoneTemperature_comfort (s : State) (z : Zone) (d : Demand) (comfort : d.isComfort = true) :
    ∃ T, s.zoneTemperature z d = some T := by
  unfold State.zoneTemperature
  rw [if_pos comfort]
  cases s.healthy (zoneChannel s.store.live z) with
  | some x => exact ⟨x, rfl⟩
  | none => cases s.cabMean with
    | some x => exact ⟨x, rfl⟩
    | none => exact ⟨_, rfl⟩

/-! ## The discharge target and the blend (R88 to R93) -/

theorem clampInt_eq {lo hi : Int} (ordered : lo ≤ hi) (x : Int) :
    clampInt lo hi x = if x < lo then lo else if hi < x then hi else x := by
  unfold clampInt
  (repeat' split) <;> omega

theorem State.decks_eq_some_iff (s : State) (c h : Int) :
    s.decks = some (c, h) ↔ s.healthy 8 = some c ∧ s.healthy 9 = some h ∧ 50 ≤ h - c := by
  unfold State.decks State.tCold State.tHot
  cases s.healthy 8 with
  | none => simp
  | some cold =>
    cases s.healthy 9 with
    | none => simp
    | some hot =>
      simp only [Option.some.injEq]
      by_cases wide : Config.usableSpread ≤ hot - cold
      · rw [if_pos wide, Option.some.injEq, Prod.mk.injEq]
        constructor
        · rintro ⟨rfl, rfl⟩
          exact ⟨rfl, rfl, wide⟩
        · exact fun both => ⟨both.1, both.2.1⟩
      · rw [if_neg wide]
        constructor
        · exact fun impossible => absurd impossible.symm (Option.some_ne_none _)
        · rintro ⟨rfl, rfl, wide'⟩
          exact absurd wide' wide

/-- The blend of a target between the decks is its place between them, rounded (R91). -/
theorem comfortBlend_between {d c h : Int} (low : c ≤ d) (high : d ≤ h) (wide : 50 ≤ h - c) :
    comfortBlend d c h = ((2 * (1000 * (d - c)) + (h - c)) / (2 * (h - c))).toNat := by
  have nonneg : 0 ≤ (2 * (1000 * (d - c)) + (h - c)) / (2 * (h - c)) := Int.ediv_nonneg (by omega) (by omega)
  have most : (2 * (1000 * (d - c)) + (h - c)) / (2 * (h - c)) < 1001 := Int.ediv_lt_of_lt_mul (by omega) (by omega)
  rw [comfortBlend, roundDivInt, clampInt_eq (by decide), if_neg (by omega), if_neg (by omega)]

/-- What an allocation finds for a COMFORT or synthetic demand (R89, R91, R92). -/
theorem State.comfort_targets (s : State) (z : Zone) {d : Demand} (comfort : d.isComfort = true) {T : Int} :
    let raw := d.setpoint s.store.live + ((s.store.live.zones[z.val].gain : Int) * (d.setpoint s.store.live - T)).tdiv 10
    let td := s.dischargeTarget z d (some T)
    (∀ c h, s.healthy 8 = some c → s.healthy 9 = some h → 50 ≤ h - c →
      let target := if raw < c then c else if h < raw then h else raw
      td = .known target ∧ s.newBlend d td = some ((2 * (1000 * (target - c)) + (h - c)) / (2 * (h - c))).toNat) ∧
    ((∀ c h, ¬ (s.healthy 8 = some c ∧ s.healthy 9 = some h ∧ 50 ≤ h - c)) →
      td = .known (if raw < -400 then -400 else if 1200 < raw then 1200 else raw) ∧ s.newBlend d td = none) := by
  intro raw td
  have kind : d.kind = some .comfort := d.kind_eq_comfort_iff.2 comfort
  have target : td = .known (comfortTarget (d.setpoint s.store.live) T s.store.live.zones[z.val].gain s.decks) := by
    simp only [td, State.dischargeTarget, kind, Option.getD_some]
  refine ⟨fun c h cold hot wide => ?_, fun narrow => ?_⟩
  · intro between
    have decks := (s.decks_eq_some_iff c h).2 ⟨cold, hot, wide⟩
    have known : td = .known between := by
      rw [target, decks]
      exact congrArg ZoneTemp.known (clampInt_eq (by omega) raw)
    refine ⟨known, ?_⟩
    simp only [known, State.newBlend, kind, decks]
    refine congrArg some (comfortBlend_between ?_ ?_ wide)
    · simp only [between]
      (repeat' split) <;> omega
    · simp only [between]
      (repeat' split) <;> omega
  · have decks : s.decks = none := by
      rw [Option.eq_none_iff_forall_not_mem]
      rintro ⟨c, h⟩ usable
      exact narrow c h ((s.decks_eq_some_iff c h).1 usable)
    refine ⟨?_, ?_⟩
    · rw [target, decks]
      exact congrArg ZoneTemp.known (clampInt_eq (by decide) raw)
    · simp only [State.newBlend, kind, decks]

/-! ## Heating, cooling and the level (R73, R74, R90) -/

theorem heating_iff (td : ZoneTemp) (t : Option Int) : heating td t = true ↔ ∃ d T, td = .known d ∧ t = some T ∧ T < d := by
  cases td <;> cases t <;> simp [heating]

theorem coolingHard_iff (td : ZoneTemp) (t : Option Int) :
    coolingHard td t = true ↔ ∃ d T, td = .known d ∧ t = some T ∧ d < T - 10 := by
  cases td <;> cases t <;> simp [coolingHard]

theorem autoLevel_eq (v T : Int) (m : Nat) : autoLevel v T m =
    if 2 + (v - T).natAbs / 15 < min 2 m then min 2 m
    else if min 8 m < 2 + (v - T).natAbs / 15 then min 8 m else 2 + (v - T).natAbs / 15 := by
  unfold autoLevel clampNat
  (repeat' split) <;> omega

/-- The cold-engine limit (R74). -/
theorem State.coldLimit_iff (s : State) (d : Demand) (isHeating : Bool) : s.coldLimit d isHeating = true ↔
    d.isComfort = true ∧ isHeating = true ∧ ∀ x, s.healthy 9 = some x → x < 300 := by
  unfold State.coldLimit State.tHot
  rw [Bool.and_eq_true, Bool.and_eq_true, and_assoc]
  refine and_congr_right fun _ => and_congr_right fun _ => ?_
  cases s.healthy 9 with
  | none => simp
  | some hot =>
    exact ⟨fun below x isHot => Option.some.inj isHot ▸ of_decide_eq_true below, fun below => decide_eq_true (below hot rfl)⟩

/-- The level of a record other than an AUTO one (R73). -/
theorem State.effectiveLevel_set (s : State) {n : Slot} {r : Record} (t : Option Int)
    (set : r.kind ≠ .comfort ∨ r.level.getD 0 ≠ 0) : s.effectiveLevel (.record n r) t = r.level.getD 0 :=
  if_neg fun auto => set.elim (fun other => other auto.1) (fun level => level auto.2)

/-- The level of an AUTO record (R73). -/
theorem State.effectiveLevel_auto (s : State) {n : Slot} {r : Record} (T : Int) (comfort : r.kind = .comfort)
    (auto : r.level.getD 0 = 0) : s.effectiveLevel (.record n r) (some T) =
      autoLevel ((r.value.getD 0 : Nat) : Int) T (s.config r.station).maxLevel := if_pos ⟨comfort, auto⟩

/-! ## The requests for cooling and heat (R98, R99) -/

theorem ZonePlan.contributes_iff (p : ZonePlan) : p.contributes = true ↔
    p.demand.kind = some .rehab ∨ p.demand.kind = some .defrost ∨ (p.demand.isComfort = true ∧ p.cooling = true) := by
  unfold ZonePlan.contributes Demand.isComfort
  cases p.demand.kind with
  | none => simp
  | some k => cases k <;> simp

theorem ZonePlan.wantsHeat_iff (p : ZonePlan) : p.wantsHeat = true ↔ p.demand.kind = some .defrost ∨
    (p.demand.isComfort = true ∧ ((∃ b, p.blend = some b ∧ 0 < b) ∨ (p.blend = none ∧ p.heating = true))) := by
  unfold ZonePlan.wantsHeat Demand.isComfort
  cases p.demand.kind with
  | none => simp
  | some k => cases k <;> cases p.blend <;> simp

/-- Settles O41: the bounds of an allocation, and a zone's plan part by part. -/
theorem grantsStayWithinTheAvailableFlow : Obligations.GrantsStayWithinTheAvailableFlow := by
  unfold Obligations.GrantsStayWithinTheAvailableFlow
  refine ⟨fun s t run exec_t => ?_, ?_⟩
  · have isT : t = s.recomputed.allocate := Host.Outcome.next.inj (exec_t.symm.trans (exec_allocation_run s run))
    have bounds := s.recomputed.allocate_bounds
    have store : s.recomputed.store = s.store := by simp [State.recomputed]
    rw [store, ← isT] at bounds
    simp only [s.plan_recomputed] at bounds
    exact bounds
  · intro s z l p healthy cold hot governs served setpoint spread
    have isDemand : p.demand = s.demand z := rfl
    have isTemperature : p.tZone = s.zoneTemperature z p.demand := rfl
    have isTarget : p.tDis = s.dischargeTarget z p.demand p.tZone := rfl
    have isBlend : p.blend = s.newBlend p.demand p.tDis := rfl
    have isLevel : p.level = s.effectiveLevel p.demand p.tZone := rfl
    have comfort : (p.demand = .synthetic ∨ served .comfort) ↔ p.demand.isComfort = true := p.demand.isComfort_iff.symm
    have setpoint_iff : ∀ v, setpoint v ↔ p.demand.isComfort = true ∧ v = p.demand.setpoint l := fun v =>
      p.demand.setpoint_iff l v
    refine ⟨?_, ?_, ?_, ?_, ?_, ?_, ?_, ?_, ?_, ?_, ?_, ?_, ?_, ?_, ?_, ?_, ?_, ?_⟩
    · exact fun below => Nat.mod_eq_of_lt below
    · exact fun n r governing => (s.demand_eq_record_iff z n r).2 governing
    · intro empty
      have demand := s.demand_of_empty z empty
      refine ⟨fun cab purge => ?_, fun quiet => ?_⟩
      · exact demand.trans (if_pos ⟨cab, s.purging_iff.2 purge⟩)
      · refine demand.trans (if_neg fun ⟨cab, purging⟩ => ?_)
        obtain ⟨n, r, governing, purge⟩ := s.purging_iff.1 purging
        exact quiet.elim cab fun others => others n r governing purge
    · exact fun x own => s.zoneTemperature_own z _ own
    · intro chans lost once named seen
      have isSeen := s.cabReadings_perm chans once named
      have temperature : p.tZone = if seen = [] then (if p.demand.isComfort then some (p.demand.setpoint l) else none)
          else some (seen.sum.tdiv (seen.length : Int)) := s.zoneTemperature_substitute z p.demand lost isSeen
      refine ⟨fun some => temperature.trans (if_neg some), fun none v isSet => ?_, fun none unset => ?_⟩
      · obtain ⟨isComfort, rfl⟩ := (setpoint_iff v).1 isSet
        rw [temperature, if_pos none, if_pos isComfort]
      · have other : ¬ p.demand.isComfort = true := fun isComfort => unset _ ((setpoint_iff _).2 ⟨isComfort, rfl⟩)
        rw [temperature, if_pos none, if_neg other]
    · intro idle
      rw [isBlend, isTarget, isLevel, idle]
      exact ⟨rfl, rfl, rfl⟩
    · intro rehab
      rw [isBlend, isTarget]
      simp only [State.newBlend, State.dischargeTarget, Demand.kind_of_record rehab]
      exact ⟨trivial, rfl⟩
    · intro defrost
      rw [isBlend, isTarget]
      simp only [State.newBlend, State.dischargeTarget, Demand.kind_of_record defrost]
      exact ⟨trivial, rfl⟩
    · intro v isSet
      obtain ⟨isComfort, isV⟩ := (setpoint_iff v).1 isSet
      obtain ⟨T, known⟩ := s.zoneTemperature_comfort z p.demand isComfort
      refine ⟨T, known, ?_⟩
      intro raw
      obtain ⟨wide, narrow⟩ := s.comfort_targets z isComfort (T := T)
      have temperature : p.tZone = some T := known
      refine ⟨?_, ?_, ?_⟩
      · rintro c h ⟨isCold, isHot, far⟩ d
        rw [isBlend, isTarget, temperature]
        subst isV
        exact wide c h isCold isHot far
      · intro near
        rw [isBlend, isTarget, temperature]
        subst isV
        exact narrow near
      · intro n r record auto m level
        rw [record] at isComfort isV
        have ofComfort : r.kind = .comfort := by simpa [Demand.isComfort, Demand.kind] using isComfort
        rw [isLevel, record, temperature, s.effectiveLevel_auto T ofComfort auto, autoLevel_eq]
        subst isV
        exact rfl
    · exact heating_iff _ _
    · exact coolingHard_iff _ _
    · intro synthetic
      rw [isLevel, synthetic]
      exact rfl
    · intro n r record set
      rw [isLevel, record]
      exact s.effectiveLevel_set _ set
    · intro limited
      have limits : limited ↔ s.coldLimit p.demand p.heating = true := by
        rw [s.coldLimit_iff, ← comfort]
        exact Iff.rfl
      exact ⟨fun cut => if_pos (limits.1 cut), fun free => if_neg fun cut => free (limits.2 cut)⟩
    · exact rfl
    · have faulted : s.outletFaulted z = true ↔ (s.drive.act (outletOf z)).state = .faulted := beq_iff_eq
      rw [← if_congr faulted rfl rfl]
      exact rfl
    · rw [p.contributes_iff, Demand.record_of_kind (by decide), Demand.record_of_kind (by decide), ← comfort]
    · rw [p.wantsHeat_iff, Demand.record_of_kind (by decide), ← comfort]

end Sys2Proof.Machine
end
